-- ==== Sys2Proof/Word.lean ====
section
/-! DEFINITION. The two word types of the machine (spec 00_scope.md R6): every bus transfer and every
8-bit register is a `Byte`, every address and the program counter a `Word`. The sums `+` and `-` on
them are the spec's `+8`, `-8`, `+16`, `-16` (00_scope.md R8), because `BitVec` arithmetic wraps. -/

namespace Sys2Proof

/-- A value of 8 bits (00_scope.md R6). -/
abbrev Byte := BitVec 8

/-- A value of 16 bits (00_scope.md R6). -/
abbrev Word := BitVec 16

end Sys2Proof
end

