-- ==== Sys2Proof/Machine/Bits.lean ====
section
/-! DEFINITION. Bit fields, extension and byte order (spec 00_scope.md R8, 20_memory.md R74). -/

namespace Sys2Proof.Machine

/-- `hi8(v) = v[15:8]` (00_scope.md R8). -/
def hi8 (v : Word) : Byte := v.extractLsb' 8 8

/-- `lo8(v) = v[7:0]` (00_scope.md R8). -/
def lo8 (v : Word) : Byte := v.extractLsb' 0 8

/-- The 16-bit value of a high and a low byte, `h * 256 + l` (00_scope.md R8). -/
def word (h l : Byte) : Word := h ++ l

/-- `zext_16` (00_scope.md R8). -/
def zext16 (b : Byte) : Word := b.setWidth 16

/-- `sext_16` (00_scope.md R8): `b` if bit 7 is 0, `b + 0xFF00` if it is 1. -/
def sext16 (b : Byte) : Word := if b.getLsbD 7 then zext16 b + 0xFF00 else zext16 b

/-- A flag's value as a number, 0 or 1 (00_scope.md R8, R9). -/
def bit (c : Bool) : Nat := if c then 1 else 0

end Sys2Proof.Machine
end

