-- ==== Sys2Proof/Config.lean ====
section
/-! DEFINITION. What an implementation fixes and the free values. Of the four parameters of 00_scope.md R7,
`DEVICES` is the state's device list, `BRK_MODE` and `BASE_CYCLES` are the record `Params`, which the state
carries (`State.params`; the defaults are in Machine/Params.lean), and `DEVICE_BEHAVIOUR` (20_memory.md
R73) is here, of which nothing is assumed. Here too are the values 70_reset_and_hazards.md R320 calls
unspecified. The opaque constants have no body: no proof can see a value of theirs. -/

namespace Sys2Proof

/-- The parameter BRK_MODE: the addressing mode of opcode 0x00 (00_scope.md R7, 30_encoding.md R107). -/
inductive BrkMode where
  | imm
  | imp
  deriving DecidableEq, Repr

/-- The parameters BRK_MODE and BASE_CYCLES (00_scope.md R7, 92_eei_decisions.md D2, D3), which the machine
takes at construction (`construct`) and keeps (assumptions 6, 7). -/
structure Params where
  /-- The addressing mode of opcode 0x00. -/
  brkMode    : BrkMode
  /-- The base cycle count of each of the 256 opcode bytes, laid out as the map of 30_encoding.md R102: a
  row for each high nibble, a column for each low nibble. -/
  baseCycles : Vector (Vector Nat 16) 16
  deriving DecidableEq, Repr

namespace Config

/-- DEVICE_BEHAVIOUR, the read function (20_memory.md R73): of the device's kind, its state, the full
16-bit address (R70) and `read_only`, to the byte read and the new device state. That a read with
`read_only = true` leaves the state unchanged is enforced where it is called (`Device.read`). -/
opaque deviceRead : Nat → List Byte → Word → Bool → Byte × List Byte

/-- DEVICE_BEHAVIOUR, the write function (20_memory.md R73): of the device's kind, its state, the full
16-bit address (R70) and the byte, to the new device state. -/
opaque deviceWrite : Nat → List Byte → Word → Byte → List Byte

/-- The count a clock() leaves that would go below zero: `cycles <- cycles - 1` from 0, which a BASE_CYCLES
entry of 0 alone brings about and for which the spec states no result; by the clock's number
(40_execution_and_addressing.md R131, assumption 14). -/
opaque cyclesBelowZero : Nat → Nat

/-- One less than the unspecified `cycles` at construction, where the core counts as executing
(70_reset_and_hazards.md R320, assumption 5). -/
opaque constructionCycles : Nat

/-- The unspecified `total_cycles` at construction (70_reset_and_hazards.md R320, assumption 5). -/
opaque constructionTotalCycles : Nat

/-- The unspecified `opcode` and `fetched` at construction, by index (70_reset_and_hazards.md R320,
assumption 5). -/
opaque constructionByte : Nat → Byte

/-- The unspecified `temp`, `addr_abs` and `addr_rel` at construction, by index
(70_reset_and_hazards.md R320, assumption 5). -/
opaque constructionWord : Nat → Word

end Config
end Sys2Proof
end

