-- ==== Sys2Proof/Machine/Params.lean ====
section
/-! DEFINITION. The parameters `BASE_CYCLES` and `BRK_MODE` (00_scope.md R7): how a table of counts is read,
how a machine with any of them is asked for, and their defaults (30_encoding.md R102, R107,
92_eei_decisions.md D2, D3). -/

namespace Sys2Proof.Machine

/-- BRK_MODE at its default, IMM (00_scope.md R7, assumption 7). -/
def brkMode : BrkMode := .imm

/-- BASE_CYCLES at its default: the base cycle count of each opcode byte, the third field of each cell of the
map of 30_encoding.md R102, row by row (assumption 6). -/
def baseCycleMap : Vector (Vector Nat 16) 16 :=
  #v[
    #v[7, 6, 2, 8, 3, 3, 5, 5, 3, 2, 2, 2, 4, 4, 6, 6],
    #v[2, 5, 2, 8, 4, 4, 6, 6, 2, 4, 2, 7, 4, 4, 7, 7],
    #v[6, 6, 2, 8, 3, 3, 5, 5, 4, 2, 2, 2, 4, 4, 6, 6],
    #v[2, 5, 2, 8, 4, 4, 6, 6, 2, 4, 2, 7, 4, 4, 7, 7],
    #v[6, 6, 2, 8, 3, 3, 5, 5, 3, 2, 2, 2, 3, 4, 6, 6],
    #v[2, 5, 2, 8, 4, 4, 6, 6, 2, 4, 2, 7, 4, 4, 7, 7],
    #v[6, 6, 2, 8, 3, 3, 5, 5, 4, 2, 2, 2, 5, 4, 6, 6],
    #v[2, 5, 2, 8, 4, 4, 6, 6, 2, 4, 2, 7, 4, 4, 7, 7],
    #v[2, 6, 2, 6, 3, 3, 3, 3, 2, 2, 2, 2, 4, 4, 4, 4],
    #v[2, 6, 2, 6, 4, 4, 4, 4, 2, 5, 2, 5, 5, 5, 5, 5],
    #v[2, 6, 2, 6, 3, 3, 3, 3, 2, 2, 2, 2, 4, 4, 4, 4],
    #v[2, 5, 2, 5, 4, 4, 4, 4, 2, 4, 2, 4, 4, 4, 4, 4],
    #v[2, 6, 2, 8, 3, 3, 5, 5, 2, 2, 2, 2, 4, 4, 6, 6],
    #v[2, 5, 2, 8, 4, 4, 6, 6, 2, 4, 2, 7, 4, 4, 7, 7],
    #v[2, 6, 2, 8, 3, 3, 5, 5, 2, 2, 2, 2, 4, 4, 6, 6],
    #v[2, 5, 2, 8, 4, 4, 6, 6, 2, 4, 2, 7, 4, 4, 7, 7]]

/-- The parameters at the spec's defaults (00_scope.md R7). -/
def defaultParams : Params := { brkMode := brkMode, baseCycles := baseCycleMap }

end Sys2Proof.Machine

namespace Sys2Proof

/-- The base cycle count of an opcode byte: the row of its high nibble, the column of its low nibble
(30_encoding.md R102). -/
def Params.base (p : Params) (op : Byte) : Nat :=
  (p.baseCycles[op.toNat / 16]'(by have := op.isLt; omega))[op.toNat % 16]

/-- The parameters with this BRK_MODE and these base cycle counts, whatever function of the opcode byte they
are (00_scope.md R7: "a model that wants to quantify over them takes them as arguments"). -/
def Params.of (m : BrkMode) (cycles : Byte → Nat) : Params :=
  { brkMode := m,
    baseCycles := Vector.ofFn fun row => Vector.ofFn fun column =>
      cycles (BitVec.ofNat 8 (row.val * 16 + column.val)) }

end Sys2Proof

namespace Sys2Proof.Machine

/-- The default base cycle count of an opcode byte (30_encoding.md R102). -/
def baseCycles (op : Byte) : Nat := defaultParams.base op

end Sys2Proof.Machine
end

