-- ==== Sys2Proof/Syntax.lean ====
section
/-! DEFINITION. The instructions, one constructor per documented cell of the opcode map
(spec 30_encoding.md R102; 151 cells over 56 mnemonics), and one, `xxx`, for the 105 undocumented bytes,
which R104 gives one mnemonic "???", one operation and one mode: it carries its opcode byte. A
constructor is named by its mnemonic and, where the mnemonic has several cells, its addressing mode; its
arguments are the operand bytes of R101 (`imm`, `zp`, `rel` one byte; `addr`, `ptr` the two bytes as the
address they make). BRK has none: the byte after it is ignored (R107). -/

namespace Sys2Proof

/-- An instruction with its operand bytes (30_encoding.md R100, R101, R102). -/
inductive Instr where
  -- 41 loads, stores, transfers
  | ldaImm (imm : Byte)  -- 0xA9 LDA IMM (R170)
  | ldaZp0 (zp : Byte)  -- 0xA5 LDA ZP0 (R170)
  | ldaZpx (zp : Byte)  -- 0xB5 LDA ZPX (R170)
  | ldaAbs (addr : Word)  -- 0xAD LDA ABS (R170)
  | ldaAbx (addr : Word)  -- 0xBD LDA ABX (R170)
  | ldaAby (addr : Word)  -- 0xB9 LDA ABY (R170)
  | ldaIzx (zp : Byte)  -- 0xA1 LDA IZX (R170)
  | ldaIzy (zp : Byte)  -- 0xB1 LDA IZY (R170)
  | ldxImm (imm : Byte)  -- 0xA2 LDX IMM (R171)
  | ldxZp0 (zp : Byte)  -- 0xA6 LDX ZP0 (R171)
  | ldxZpy (zp : Byte)  -- 0xB6 LDX ZPY (R171)
  | ldxAbs (addr : Word)  -- 0xAE LDX ABS (R171)
  | ldxAby (addr : Word)  -- 0xBE LDX ABY (R171)
  | ldyImm (imm : Byte)  -- 0xA0 LDY IMM (R172)
  | ldyZp0 (zp : Byte)  -- 0xA4 LDY ZP0 (R172)
  | ldyZpx (zp : Byte)  -- 0xB4 LDY ZPX (R172)
  | ldyAbs (addr : Word)  -- 0xAC LDY ABS (R172)
  | ldyAbx (addr : Word)  -- 0xBC LDY ABX (R172)
  | staZp0 (zp : Byte)  -- 0x85 STA ZP0 (R173)
  | staZpx (zp : Byte)  -- 0x95 STA ZPX (R173)
  | staAbs (addr : Word)  -- 0x8D STA ABS (R173)
  | staAbx (addr : Word)  -- 0x9D STA ABX (R173)
  | staAby (addr : Word)  -- 0x99 STA ABY (R173)
  | staIzx (zp : Byte)  -- 0x81 STA IZX (R173)
  | staIzy (zp : Byte)  -- 0x91 STA IZY (R173)
  | stxZp0 (zp : Byte)  -- 0x86 STX ZP0 (R174)
  | stxZpy (zp : Byte)  -- 0x96 STX ZPY (R174)
  | stxAbs (addr : Word)  -- 0x8E STX ABS (R174)
  | styZp0 (zp : Byte)  -- 0x84 STY ZP0 (R175)
  | styZpx (zp : Byte)  -- 0x94 STY ZPX (R175)
  | styAbs (addr : Word)  -- 0x8C STY ABS (R175)
  | tax  -- 0xAA TAX IMP (R176)
  | tay  -- 0xA8 TAY IMP (R177)
  | tsx  -- 0xBA TSX IMP (R178)
  | txa  -- 0x8A TXA IMP (R179)
  | txs  -- 0x9A TXS IMP (R180)
  | tya  -- 0x98 TYA IMP (R181)
  -- 42 arithmetic, logic, compare, increment
  | adcImm (imm : Byte)  -- 0x69 ADC IMM (R190)
  | adcZp0 (zp : Byte)  -- 0x65 ADC ZP0 (R190)
  | adcZpx (zp : Byte)  -- 0x75 ADC ZPX (R190)
  | adcAbs (addr : Word)  -- 0x6D ADC ABS (R190)
  | adcAbx (addr : Word)  -- 0x7D ADC ABX (R190)
  | adcAby (addr : Word)  -- 0x79 ADC ABY (R190)
  | adcIzx (zp : Byte)  -- 0x61 ADC IZX (R190)
  | adcIzy (zp : Byte)  -- 0x71 ADC IZY (R190)
  | sbcImm (imm : Byte)  -- 0xE9 SBC IMM (R191)
  | sbcZp0 (zp : Byte)  -- 0xE5 SBC ZP0 (R191)
  | sbcZpx (zp : Byte)  -- 0xF5 SBC ZPX (R191)
  | sbcAbs (addr : Word)  -- 0xED SBC ABS (R191)
  | sbcAbx (addr : Word)  -- 0xFD SBC ABX (R191)
  | sbcAby (addr : Word)  -- 0xF9 SBC ABY (R191)
  | sbcIzx (zp : Byte)  -- 0xE1 SBC IZX (R191)
  | sbcIzy (zp : Byte)  -- 0xF1 SBC IZY (R191)
  | andImm (imm : Byte)  -- 0x29 AND IMM (R192)
  | andZp0 (zp : Byte)  -- 0x25 AND ZP0 (R192)
  | andZpx (zp : Byte)  -- 0x35 AND ZPX (R192)
  | andAbs (addr : Word)  -- 0x2D AND ABS (R192)
  | andAbx (addr : Word)  -- 0x3D AND ABX (R192)
  | andAby (addr : Word)  -- 0x39 AND ABY (R192)
  | andIzx (zp : Byte)  -- 0x21 AND IZX (R192)
  | andIzy (zp : Byte)  -- 0x31 AND IZY (R192)
  | oraImm (imm : Byte)  -- 0x09 ORA IMM (R193)
  | oraZp0 (zp : Byte)  -- 0x05 ORA ZP0 (R193)
  | oraZpx (zp : Byte)  -- 0x15 ORA ZPX (R193)
  | oraAbs (addr : Word)  -- 0x0D ORA ABS (R193)
  | oraAbx (addr : Word)  -- 0x1D ORA ABX (R193)
  | oraAby (addr : Word)  -- 0x19 ORA ABY (R193)
  | oraIzx (zp : Byte)  -- 0x01 ORA IZX (R193)
  | oraIzy (zp : Byte)  -- 0x11 ORA IZY (R193)
  | eorImm (imm : Byte)  -- 0x49 EOR IMM (R194)
  | eorZp0 (zp : Byte)  -- 0x45 EOR ZP0 (R194)
  | eorZpx (zp : Byte)  -- 0x55 EOR ZPX (R194)
  | eorAbs (addr : Word)  -- 0x4D EOR ABS (R194)
  | eorAbx (addr : Word)  -- 0x5D EOR ABX (R194)
  | eorAby (addr : Word)  -- 0x59 EOR ABY (R194)
  | eorIzx (zp : Byte)  -- 0x41 EOR IZX (R194)
  | eorIzy (zp : Byte)  -- 0x51 EOR IZY (R194)
  | bitZp0 (zp : Byte)  -- 0x24 BIT ZP0 (R195)
  | bitAbs (addr : Word)  -- 0x2C BIT ABS (R195)
  | cmpImm (imm : Byte)  -- 0xC9 CMP IMM (R196)
  | cmpZp0 (zp : Byte)  -- 0xC5 CMP ZP0 (R196)
  | cmpZpx (zp : Byte)  -- 0xD5 CMP ZPX (R196)
  | cmpAbs (addr : Word)  -- 0xCD CMP ABS (R196)
  | cmpAbx (addr : Word)  -- 0xDD CMP ABX (R196)
  | cmpAby (addr : Word)  -- 0xD9 CMP ABY (R196)
  | cmpIzx (zp : Byte)  -- 0xC1 CMP IZX (R196)
  | cmpIzy (zp : Byte)  -- 0xD1 CMP IZY (R196)
  | cpxImm (imm : Byte)  -- 0xE0 CPX IMM (R197)
  | cpxZp0 (zp : Byte)  -- 0xE4 CPX ZP0 (R197)
  | cpxAbs (addr : Word)  -- 0xEC CPX ABS (R197)
  | cpyImm (imm : Byte)  -- 0xC0 CPY IMM (R198)
  | cpyZp0 (zp : Byte)  -- 0xC4 CPY ZP0 (R198)
  | cpyAbs (addr : Word)  -- 0xCC CPY ABS (R198)
  | incZp0 (zp : Byte)  -- 0xE6 INC ZP0 (R199)
  | incZpx (zp : Byte)  -- 0xF6 INC ZPX (R199)
  | incAbs (addr : Word)  -- 0xEE INC ABS (R199)
  | incAbx (addr : Word)  -- 0xFE INC ABX (R199)
  | decZp0 (zp : Byte)  -- 0xC6 DEC ZP0 (R200)
  | decZpx (zp : Byte)  -- 0xD6 DEC ZPX (R200)
  | decAbs (addr : Word)  -- 0xCE DEC ABS (R200)
  | decAbx (addr : Word)  -- 0xDE DEC ABX (R200)
  | inx  -- 0xE8 INX IMP (R201)
  | iny  -- 0xC8 INY IMP (R202)
  | dex  -- 0xCA DEX IMP (R203)
  | dey  -- 0x88 DEY IMP (R204)
  -- 43 shifts and rotates
  | aslZp0 (zp : Byte)  -- 0x06 ASL ZP0 (R221)
  | aslZpx (zp : Byte)  -- 0x16 ASL ZPX (R221)
  | aslAbs (addr : Word)  -- 0x0E ASL ABS (R221)
  | aslAbx (addr : Word)  -- 0x1E ASL ABX (R221)
  | aslImp  -- 0x0A ASL IMP (R221)
  | lsrZp0 (zp : Byte)  -- 0x46 LSR ZP0 (R222)
  | lsrZpx (zp : Byte)  -- 0x56 LSR ZPX (R222)
  | lsrAbs (addr : Word)  -- 0x4E LSR ABS (R222)
  | lsrAbx (addr : Word)  -- 0x5E LSR ABX (R222)
  | lsrImp  -- 0x4A LSR IMP (R222)
  | rolZp0 (zp : Byte)  -- 0x26 ROL ZP0 (R223)
  | rolZpx (zp : Byte)  -- 0x36 ROL ZPX (R223)
  | rolAbs (addr : Word)  -- 0x2E ROL ABS (R223)
  | rolAbx (addr : Word)  -- 0x3E ROL ABX (R223)
  | rolImp  -- 0x2A ROL IMP (R223)
  | rorZp0 (zp : Byte)  -- 0x66 ROR ZP0 (R224)
  | rorZpx (zp : Byte)  -- 0x76 ROR ZPX (R224)
  | rorAbs (addr : Word)  -- 0x6E ROR ABS (R224)
  | rorAbx (addr : Word)  -- 0x7E ROR ABX (R224)
  | rorImp  -- 0x6A ROR IMP (R224)
  -- 44 branches, jumps, subroutines
  | bcc (rel : Byte)  -- 0x90 BCC REL (R231)
  | bcs (rel : Byte)  -- 0xB0 BCS REL (R232)
  | beq (rel : Byte)  -- 0xF0 BEQ REL (R233)
  | bmi (rel : Byte)  -- 0x30 BMI REL (R234)
  | bne (rel : Byte)  -- 0xD0 BNE REL (R235)
  | bpl (rel : Byte)  -- 0x10 BPL REL (R236)
  | bvc (rel : Byte)  -- 0x50 BVC REL (R237)
  | bvs (rel : Byte)  -- 0x70 BVS REL (R238)
  | jmpAbs (addr : Word)  -- 0x4C JMP ABS (R239)
  | jmpInd (ptr : Word)  -- 0x6C JMP IND (R239)
  | jsr (addr : Word)  -- 0x20 JSR ABS (R240)
  | rts  -- 0x60 RTS IMP (R241)
  -- 45 stack, flags, system
  | pha  -- 0x48 PHA IMP (R250)
  | php  -- 0x08 PHP IMP (R251)
  | pla  -- 0x68 PLA IMP (R252)
  | plp  -- 0x28 PLP IMP (R253)
  | clc  -- 0x18 CLC IMP (R254)
  | cld  -- 0xD8 CLD IMP (R255)
  | cli  -- 0x58 CLI IMP (R256)
  | clv  -- 0xB8 CLV IMP (R257)
  | sec  -- 0x38 SEC IMP (R258)
  | sed  -- 0xF8 SED IMP (R259)
  | sei  -- 0x78 SEI IMP (R260)
  | nop  -- 0xEA NOP IMP (R262)
  | brk  -- 0x00 BRK IMM (R263)
  | rti  -- 0x40 RTI IMP (R264)
  -- the undocumented bytes
  | xxx (op : Byte)  -- "???" IMP (R104, R265)
  deriving DecidableEq, Repr

end Sys2Proof
end

