-- ==== Sys2Proof/Decode.lean ====
section
/-! DEFINITION. The opcode_decoder (spec 30_encoding.md): the map from opcode bytes to instructions, the
decoder over a list of bytes, and the encoder. Decoding is a lookup by the whole opcode byte (R106) and
total: no byte is invalid (R103, R105). Only a list that ends before the instruction does is rejected. -/

namespace Sys2Proof

open Sys2Proof.Machine

/-- The twelve addressing modes (30_encoding.md R101). -/
inductive Mode where
  | imp | imm | zp0 | zpx | zpy | rel | abs | abx | aby | ind | izx | izy
  deriving DecidableEq, Repr

/-- An addressing mode with its operand bytes (30_encoding.md R101). -/
inductive Operand where
  | imp
  | imm (b : Byte)
  | zp0 (zp : Byte)
  | zpx (zp : Byte)
  | zpy (zp : Byte)
  | rel (b : Byte)
  | abs (addr : Word)
  | abx (addr : Word)
  | aby (addr : Word)
  | ind (ptr : Word)
  | izx (zp : Byte)
  | izy (zp : Byte)
  deriving DecidableEq, Repr

/-- The mode of an operand. -/
def Operand.mode : Operand → Mode
  | .imp => .imp
  | .imm _ => .imm
  | .zp0 _ => .zp0
  | .zpx _ => .zpx
  | .zpy _ => .zpy
  | .rel _ => .rel
  | .abs _ => .abs
  | .abx _ => .abx
  | .aby _ => .aby
  | .ind _ => .ind
  | .izx _ => .izx
  | .izy _ => .izy

/-- The operand bytes in increasing address order: low byte first (30_encoding.md R101, 20_memory.md R74). -/
def Operand.bytes : Operand → List Byte
  | .imp => []
  | .imm b | .zp0 b | .zpx b | .zpy b | .rel b | .izx b | .izy b => [b]
  | .abs a | .abx a | .aby a | .ind a => [lo8 a, hi8 a]

/-- The 56 documented mnemonics (00_scope.md R2) and `xxx`, the spec's "???" (30_encoding.md R104). -/
inductive Mnemonic where
  | lda | ldx | ldy | sta | stx | sty | tax | tay | tsx | txa | txs | tya | adc | sbc | and | ora
  | eor | bit | cmp | cpx | cpy | inc | dec | inx | iny | dex | dey | asl | lsr | rol | ror | bcc
  | bcs | beq | bmi | bne | bpl | bvc | bvs | jmp | jsr | rts | pha | php | pla | plp | clc | cld
  | cli | clv | sec | sed | sei | nop | brk | rti | xxx
  deriving DecidableEq, Repr

/-- The mnemonic of an instruction (30_encoding.md R102). -/
def Instr.mnemonic : Instr → Mnemonic
  | .ldaImm _ | .ldaZp0 _ | .ldaZpx _ | .ldaAbs _ | .ldaAbx _ | .ldaAby _ | .ldaIzx _ | .ldaIzy _ => .lda
  | .ldxImm _ | .ldxZp0 _ | .ldxZpy _ | .ldxAbs _ | .ldxAby _ => .ldx
  | .ldyImm _ | .ldyZp0 _ | .ldyZpx _ | .ldyAbs _ | .ldyAbx _ => .ldy
  | .staZp0 _ | .staZpx _ | .staAbs _ | .staAbx _ | .staAby _ | .staIzx _ | .staIzy _ => .sta
  | .stxZp0 _ | .stxZpy _ | .stxAbs _ => .stx
  | .styZp0 _ | .styZpx _ | .styAbs _ => .sty
  | .tax => .tax
  | .tay => .tay
  | .tsx => .tsx
  | .txa => .txa
  | .txs => .txs
  | .tya => .tya
  | .adcImm _ | .adcZp0 _ | .adcZpx _ | .adcAbs _ | .adcAbx _ | .adcAby _ | .adcIzx _ | .adcIzy _ => .adc
  | .sbcImm _ | .sbcZp0 _ | .sbcZpx _ | .sbcAbs _ | .sbcAbx _ | .sbcAby _ | .sbcIzx _ | .sbcIzy _ => .sbc
  | .andImm _ | .andZp0 _ | .andZpx _ | .andAbs _ | .andAbx _ | .andAby _ | .andIzx _ | .andIzy _ => .and
  | .oraImm _ | .oraZp0 _ | .oraZpx _ | .oraAbs _ | .oraAbx _ | .oraAby _ | .oraIzx _ | .oraIzy _ => .ora
  | .eorImm _ | .eorZp0 _ | .eorZpx _ | .eorAbs _ | .eorAbx _ | .eorAby _ | .eorIzx _ | .eorIzy _ => .eor
  | .bitZp0 _ | .bitAbs _ => .bit
  | .cmpImm _ | .cmpZp0 _ | .cmpZpx _ | .cmpAbs _ | .cmpAbx _ | .cmpAby _ | .cmpIzx _ | .cmpIzy _ => .cmp
  | .cpxImm _ | .cpxZp0 _ | .cpxAbs _ => .cpx
  | .cpyImm _ | .cpyZp0 _ | .cpyAbs _ => .cpy
  | .incZp0 _ | .incZpx _ | .incAbs _ | .incAbx _ => .inc
  | .decZp0 _ | .decZpx _ | .decAbs _ | .decAbx _ => .dec
  | .inx => .inx
  | .iny => .iny
  | .dex => .dex
  | .dey => .dey
  | .aslZp0 _ | .aslZpx _ | .aslAbs _ | .aslAbx _ | .aslImp => .asl
  | .lsrZp0 _ | .lsrZpx _ | .lsrAbs _ | .lsrAbx _ | .lsrImp => .lsr
  | .rolZp0 _ | .rolZpx _ | .rolAbs _ | .rolAbx _ | .rolImp => .rol
  | .rorZp0 _ | .rorZpx _ | .rorAbs _ | .rorAbx _ | .rorImp => .ror
  | .bcc _ => .bcc
  | .bcs _ => .bcs
  | .beq _ => .beq
  | .bmi _ => .bmi
  | .bne _ => .bne
  | .bpl _ => .bpl
  | .bvc _ => .bvc
  | .bvs _ => .bvs
  | .jmpAbs _ | .jmpInd _ => .jmp
  | .jsr _ => .jsr
  | .rts => .rts
  | .pha => .pha
  | .php => .php
  | .pla => .pla
  | .plp => .plp
  | .clc => .clc
  | .cld => .cld
  | .cli => .cli
  | .clv => .clv
  | .sec => .sec
  | .sed => .sed
  | .sei => .sei
  | .nop => .nop
  | .brk => .brk
  | .rti => .rti
  | .xxx _ => .xxx

/-- The operand of BRK in each BRK_MODE (30_encoding.md R107). With IMM the byte after the opcode is
consumed, never read and ignored (45_stack_flags_system.md R263): the encoder writes it as 0. -/
def brkOperand : BrkMode → Operand
  | .imm => .imm 0x00
  | .imp => .imp

/-- The addressing mode and operand bytes of an instruction under a BRK_MODE (30_encoding.md R101, R102). -/
def Instr.operandWith (m : BrkMode) : Instr → Operand
  | .ldaImm b | .ldxImm b | .ldyImm b | .adcImm b | .sbcImm b | .andImm b | .oraImm b
  | .eorImm b | .cmpImm b | .cpxImm b | .cpyImm b => .imm b
  | .ldaZp0 b | .ldxZp0 b | .ldyZp0 b | .staZp0 b | .stxZp0 b | .styZp0 b | .adcZp0 b
  | .sbcZp0 b | .andZp0 b | .oraZp0 b | .eorZp0 b | .bitZp0 b | .cmpZp0 b | .cpxZp0 b
  | .cpyZp0 b | .incZp0 b | .decZp0 b | .aslZp0 b | .lsrZp0 b | .rolZp0 b | .rorZp0 b => .zp0 b
  | .ldaZpx b | .ldyZpx b | .staZpx b | .styZpx b | .adcZpx b | .sbcZpx b | .andZpx b
  | .oraZpx b | .eorZpx b | .cmpZpx b | .incZpx b | .decZpx b | .aslZpx b | .lsrZpx b
  | .rolZpx b | .rorZpx b => .zpx b
  | .ldxZpy b | .stxZpy b => .zpy b
  | .ldaAbs a | .ldxAbs a | .ldyAbs a | .staAbs a | .stxAbs a | .styAbs a | .adcAbs a
  | .sbcAbs a | .andAbs a | .oraAbs a | .eorAbs a | .bitAbs a | .cmpAbs a | .cpxAbs a
  | .cpyAbs a | .incAbs a | .decAbs a | .aslAbs a | .lsrAbs a | .rolAbs a | .rorAbs a
  | .jmpAbs a | .jsr a => .abs a
  | .ldaAbx a | .ldyAbx a | .staAbx a | .adcAbx a | .sbcAbx a | .andAbx a | .oraAbx a
  | .eorAbx a | .cmpAbx a | .incAbx a | .decAbx a | .aslAbx a | .lsrAbx a | .rolAbx a
  | .rorAbx a => .abx a
  | .ldaAby a | .ldxAby a | .staAby a | .adcAby a | .sbcAby a | .andAby a | .oraAby a
  | .eorAby a | .cmpAby a => .aby a
  | .ldaIzx b | .staIzx b | .adcIzx b | .sbcIzx b | .andIzx b | .oraIzx b | .eorIzx b
  | .cmpIzx b => .izx b
  | .ldaIzy b | .staIzy b | .adcIzy b | .sbcIzy b | .andIzy b | .oraIzy b | .eorIzy b
  | .cmpIzy b => .izy b
  | .jmpInd a => .ind a
  | .tax | .tay | .tsx | .txa | .txs | .tya | .inx | .iny | .dex | .dey | .aslImp | .lsrImp
  | .rolImp | .rorImp | .rts | .pha | .php | .pla | .plp | .clc | .cld | .cli | .clv | .sec
  | .sed | .sei | .nop | .rti | .xxx _ => .imp
  | .bcc b | .bcs b | .beq b | .bmi b | .bne b | .bpl b | .bvc b | .bvs b => .rel b
  | .brk => brkOperand m

/-- The addressing mode and operand bytes of an instruction at the default BRK_MODE. -/
def Instr.operand (i : Instr) : Operand := i.operandWith brkMode

/-- The opcode byte of an instruction (30_encoding.md R102, the list of opcode bytes per mnemonic). -/
def Instr.opcode : Instr → Byte
  | .ldaImm _ => 0xA9
  | .ldaZp0 _ => 0xA5
  | .ldaZpx _ => 0xB5
  | .ldaAbs _ => 0xAD
  | .ldaAbx _ => 0xBD
  | .ldaAby _ => 0xB9
  | .ldaIzx _ => 0xA1
  | .ldaIzy _ => 0xB1
  | .ldxImm _ => 0xA2
  | .ldxZp0 _ => 0xA6
  | .ldxZpy _ => 0xB6
  | .ldxAbs _ => 0xAE
  | .ldxAby _ => 0xBE
  | .ldyImm _ => 0xA0
  | .ldyZp0 _ => 0xA4
  | .ldyZpx _ => 0xB4
  | .ldyAbs _ => 0xAC
  | .ldyAbx _ => 0xBC
  | .staZp0 _ => 0x85
  | .staZpx _ => 0x95
  | .staAbs _ => 0x8D
  | .staAbx _ => 0x9D
  | .staAby _ => 0x99
  | .staIzx _ => 0x81
  | .staIzy _ => 0x91
  | .stxZp0 _ => 0x86
  | .stxZpy _ => 0x96
  | .stxAbs _ => 0x8E
  | .styZp0 _ => 0x84
  | .styZpx _ => 0x94
  | .styAbs _ => 0x8C
  | .tax => 0xAA
  | .tay => 0xA8
  | .tsx => 0xBA
  | .txa => 0x8A
  | .txs => 0x9A
  | .tya => 0x98
  | .adcImm _ => 0x69
  | .adcZp0 _ => 0x65
  | .adcZpx _ => 0x75
  | .adcAbs _ => 0x6D
  | .adcAbx _ => 0x7D
  | .adcAby _ => 0x79
  | .adcIzx _ => 0x61
  | .adcIzy _ => 0x71
  | .sbcImm _ => 0xE9
  | .sbcZp0 _ => 0xE5
  | .sbcZpx _ => 0xF5
  | .sbcAbs _ => 0xED
  | .sbcAbx _ => 0xFD
  | .sbcAby _ => 0xF9
  | .sbcIzx _ => 0xE1
  | .sbcIzy _ => 0xF1
  | .andImm _ => 0x29
  | .andZp0 _ => 0x25
  | .andZpx _ => 0x35
  | .andAbs _ => 0x2D
  | .andAbx _ => 0x3D
  | .andAby _ => 0x39
  | .andIzx _ => 0x21
  | .andIzy _ => 0x31
  | .oraImm _ => 0x09
  | .oraZp0 _ => 0x05
  | .oraZpx _ => 0x15
  | .oraAbs _ => 0x0D
  | .oraAbx _ => 0x1D
  | .oraAby _ => 0x19
  | .oraIzx _ => 0x01
  | .oraIzy _ => 0x11
  | .eorImm _ => 0x49
  | .eorZp0 _ => 0x45
  | .eorZpx _ => 0x55
  | .eorAbs _ => 0x4D
  | .eorAbx _ => 0x5D
  | .eorAby _ => 0x59
  | .eorIzx _ => 0x41
  | .eorIzy _ => 0x51
  | .bitZp0 _ => 0x24
  | .bitAbs _ => 0x2C
  | .cmpImm _ => 0xC9
  | .cmpZp0 _ => 0xC5
  | .cmpZpx _ => 0xD5
  | .cmpAbs _ => 0xCD
  | .cmpAbx _ => 0xDD
  | .cmpAby _ => 0xD9
  | .cmpIzx _ => 0xC1
  | .cmpIzy _ => 0xD1
  | .cpxImm _ => 0xE0
  | .cpxZp0 _ => 0xE4
  | .cpxAbs _ => 0xEC
  | .cpyImm _ => 0xC0
  | .cpyZp0 _ => 0xC4
  | .cpyAbs _ => 0xCC
  | .incZp0 _ => 0xE6
  | .incZpx _ => 0xF6
  | .incAbs _ => 0xEE
  | .incAbx _ => 0xFE
  | .decZp0 _ => 0xC6
  | .decZpx _ => 0xD6
  | .decAbs _ => 0xCE
  | .decAbx _ => 0xDE
  | .inx => 0xE8
  | .iny => 0xC8
  | .dex => 0xCA
  | .dey => 0x88
  | .aslZp0 _ => 0x06
  | .aslZpx _ => 0x16
  | .aslAbs _ => 0x0E
  | .aslAbx _ => 0x1E
  | .aslImp => 0x0A
  | .lsrZp0 _ => 0x46
  | .lsrZpx _ => 0x56
  | .lsrAbs _ => 0x4E
  | .lsrAbx _ => 0x5E
  | .lsrImp => 0x4A
  | .rolZp0 _ => 0x26
  | .rolZpx _ => 0x36
  | .rolAbs _ => 0x2E
  | .rolAbx _ => 0x3E
  | .rolImp => 0x2A
  | .rorZp0 _ => 0x66
  | .rorZpx _ => 0x76
  | .rorAbs _ => 0x6E
  | .rorAbx _ => 0x7E
  | .rorImp => 0x6A
  | .bcc _ => 0x90
  | .bcs _ => 0xB0
  | .beq _ => 0xF0
  | .bmi _ => 0x30
  | .bne _ => 0xD0
  | .bpl _ => 0x10
  | .bvc _ => 0x50
  | .bvs _ => 0x70
  | .jmpAbs _ => 0x4C
  | .jmpInd _ => 0x6C
  | .jsr _ => 0x20
  | .rts => 0x60
  | .pha => 0x48
  | .php => 0x08
  | .pla => 0x68
  | .plp => 0x28
  | .clc => 0x18
  | .cld => 0xD8
  | .cli => 0x58
  | .clv => 0xB8
  | .sec => 0x38
  | .sed => 0xF8
  | .sei => 0x78
  | .nop => 0xEA
  | .brk => 0x00
  | .rti => 0x40
  | .xxx op => op

/-- How many bytes an instruction has under a BRK_MODE (30_encoding.md R100, R101). -/
def Instr.lengthWith (m : BrkMode) (i : Instr) : Nat := 1 + (i.operandWith m).bytes.length

/-- How many bytes an instruction has at the default BRK_MODE. -/
def Instr.length (i : Instr) : Nat := i.lengthWith brkMode

/-- The bytes of an instruction under a BRK_MODE, the opcode first (30_encoding.md R100, R101). -/
def encodeWith (m : BrkMode) (i : Instr) : List Byte := i.opcode :: (i.operandWith m).bytes

/-- The bytes of an instruction at the default BRK_MODE. -/
def encode (i : Instr) : List Byte := encodeWith brkMode i

/-- What an opcode byte asks of the bytes after it: a whole instruction, one operand byte, two operand
bytes that make an address, or BRK, whose length is BRK_MODE's (30_encoding.md R100, R107). -/
inductive Form where
  | whole (i : Instr)
  | byte (f : Byte → Instr)
  | addr (f : Word → Instr)
  | brk


/-- Row 0x of the opcode map (30_encoding.md R102). -/
def opcodeRow0 : List Form :=
  [.brk, .byte .oraIzx, .whole (.xxx 0x02), .whole (.xxx 0x03),
    .whole (.xxx 0x04), .byte .oraZp0, .byte .aslZp0, .whole (.xxx 0x07),
    .whole .php, .byte .oraImm, .whole .aslImp, .whole (.xxx 0x0B),
    .whole (.xxx 0x0C), .addr .oraAbs, .addr .aslAbs, .whole (.xxx 0x0F)]

/-- Row 1x of the opcode map (30_encoding.md R102). -/
def opcodeRow1 : List Form :=
  [.byte .bpl, .byte .oraIzy, .whole (.xxx 0x12), .whole (.xxx 0x13),
    .whole (.xxx 0x14), .byte .oraZpx, .byte .aslZpx, .whole (.xxx 0x17),
    .whole .clc, .addr .oraAby, .whole (.xxx 0x1A), .whole (.xxx 0x1B),
    .whole (.xxx 0x1C), .addr .oraAbx, .addr .aslAbx, .whole (.xxx 0x1F)]

/-- Row 2x of the opcode map (30_encoding.md R102). -/
def opcodeRow2 : List Form :=
  [.addr .jsr, .byte .andIzx, .whole (.xxx 0x22), .whole (.xxx 0x23),
    .byte .bitZp0, .byte .andZp0, .byte .rolZp0, .whole (.xxx 0x27),
    .whole .plp, .byte .andImm, .whole .rolImp, .whole (.xxx 0x2B),
    .addr .bitAbs, .addr .andAbs, .addr .rolAbs, .whole (.xxx 0x2F)]

/-- Row 3x of the opcode map (30_encoding.md R102). -/
def opcodeRow3 : List Form :=
  [.byte .bmi, .byte .andIzy, .whole (.xxx 0x32), .whole (.xxx 0x33),
    .whole (.xxx 0x34), .byte .andZpx, .byte .rolZpx, .whole (.xxx 0x37),
    .whole .sec, .addr .andAby, .whole (.xxx 0x3A), .whole (.xxx 0x3B),
    .whole (.xxx 0x3C), .addr .andAbx, .addr .rolAbx, .whole (.xxx 0x3F)]

/-- Row 4x of the opcode map (30_encoding.md R102). -/
def opcodeRow4 : List Form :=
  [.whole .rti, .byte .eorIzx, .whole (.xxx 0x42), .whole (.xxx 0x43),
    .whole (.xxx 0x44), .byte .eorZp0, .byte .lsrZp0, .whole (.xxx 0x47),
    .whole .pha, .byte .eorImm, .whole .lsrImp, .whole (.xxx 0x4B),
    .addr .jmpAbs, .addr .eorAbs, .addr .lsrAbs, .whole (.xxx 0x4F)]

/-- Row 5x of the opcode map (30_encoding.md R102). -/
def opcodeRow5 : List Form :=
  [.byte .bvc, .byte .eorIzy, .whole (.xxx 0x52), .whole (.xxx 0x53),
    .whole (.xxx 0x54), .byte .eorZpx, .byte .lsrZpx, .whole (.xxx 0x57),
    .whole .cli, .addr .eorAby, .whole (.xxx 0x5A), .whole (.xxx 0x5B),
    .whole (.xxx 0x5C), .addr .eorAbx, .addr .lsrAbx, .whole (.xxx 0x5F)]

/-- Row 6x of the opcode map (30_encoding.md R102). -/
def opcodeRow6 : List Form :=
  [.whole .rts, .byte .adcIzx, .whole (.xxx 0x62), .whole (.xxx 0x63),
    .whole (.xxx 0x64), .byte .adcZp0, .byte .rorZp0, .whole (.xxx 0x67),
    .whole .pla, .byte .adcImm, .whole .rorImp, .whole (.xxx 0x6B),
    .addr .jmpInd, .addr .adcAbs, .addr .rorAbs, .whole (.xxx 0x6F)]

/-- Row 7x of the opcode map (30_encoding.md R102). -/
def opcodeRow7 : List Form :=
  [.byte .bvs, .byte .adcIzy, .whole (.xxx 0x72), .whole (.xxx 0x73),
    .whole (.xxx 0x74), .byte .adcZpx, .byte .rorZpx, .whole (.xxx 0x77),
    .whole .sei, .addr .adcAby, .whole (.xxx 0x7A), .whole (.xxx 0x7B),
    .whole (.xxx 0x7C), .addr .adcAbx, .addr .rorAbx, .whole (.xxx 0x7F)]

/-- Row 8x of the opcode map (30_encoding.md R102). -/
def opcodeRow8 : List Form :=
  [.whole (.xxx 0x80), .byte .staIzx, .whole (.xxx 0x82), .whole (.xxx 0x83),
    .byte .styZp0, .byte .staZp0, .byte .stxZp0, .whole (.xxx 0x87),
    .whole .dey, .whole (.xxx 0x89), .whole .txa, .whole (.xxx 0x8B),
    .addr .styAbs, .addr .staAbs, .addr .stxAbs, .whole (.xxx 0x8F)]

/-- Row 9x of the opcode map (30_encoding.md R102). -/
def opcodeRow9 : List Form :=
  [.byte .bcc, .byte .staIzy, .whole (.xxx 0x92), .whole (.xxx 0x93),
    .byte .styZpx, .byte .staZpx, .byte .stxZpy, .whole (.xxx 0x97),
    .whole .tya, .addr .staAby, .whole .txs, .whole (.xxx 0x9B),
    .whole (.xxx 0x9C), .addr .staAbx, .whole (.xxx 0x9E), .whole (.xxx 0x9F)]

/-- Row Ax of the opcode map (30_encoding.md R102). -/
def opcodeRowA : List Form :=
  [.byte .ldyImm, .byte .ldaIzx, .byte .ldxImm, .whole (.xxx 0xA3),
    .byte .ldyZp0, .byte .ldaZp0, .byte .ldxZp0, .whole (.xxx 0xA7),
    .whole .tay, .byte .ldaImm, .whole .tax, .whole (.xxx 0xAB),
    .addr .ldyAbs, .addr .ldaAbs, .addr .ldxAbs, .whole (.xxx 0xAF)]

/-- Row Bx of the opcode map (30_encoding.md R102). -/
def opcodeRowB : List Form :=
  [.byte .bcs, .byte .ldaIzy, .whole (.xxx 0xB2), .whole (.xxx 0xB3),
    .byte .ldyZpx, .byte .ldaZpx, .byte .ldxZpy, .whole (.xxx 0xB7),
    .whole .clv, .addr .ldaAby, .whole .tsx, .whole (.xxx 0xBB),
    .addr .ldyAbx, .addr .ldaAbx, .addr .ldxAby, .whole (.xxx 0xBF)]

/-- Row Cx of the opcode map (30_encoding.md R102). -/
def opcodeRowC : List Form :=
  [.byte .cpyImm, .byte .cmpIzx, .whole (.xxx 0xC2), .whole (.xxx 0xC3),
    .byte .cpyZp0, .byte .cmpZp0, .byte .decZp0, .whole (.xxx 0xC7),
    .whole .iny, .byte .cmpImm, .whole .dex, .whole (.xxx 0xCB),
    .addr .cpyAbs, .addr .cmpAbs, .addr .decAbs, .whole (.xxx 0xCF)]

/-- Row Dx of the opcode map (30_encoding.md R102). -/
def opcodeRowD : List Form :=
  [.byte .bne, .byte .cmpIzy, .whole (.xxx 0xD2), .whole (.xxx 0xD3),
    .whole (.xxx 0xD4), .byte .cmpZpx, .byte .decZpx, .whole (.xxx 0xD7),
    .whole .cld, .addr .cmpAby, .whole (.xxx 0xDA), .whole (.xxx 0xDB),
    .whole (.xxx 0xDC), .addr .cmpAbx, .addr .decAbx, .whole (.xxx 0xDF)]

/-- Row Ex of the opcode map (30_encoding.md R102). -/
def opcodeRowE : List Form :=
  [.byte .cpxImm, .byte .sbcIzx, .whole (.xxx 0xE2), .whole (.xxx 0xE3),
    .byte .cpxZp0, .byte .sbcZp0, .byte .incZp0, .whole (.xxx 0xE7),
    .whole .inx, .byte .sbcImm, .whole .nop, .whole (.xxx 0xEB),
    .addr .cpxAbs, .addr .sbcAbs, .addr .incAbs, .whole (.xxx 0xEF)]

/-- Row Fx of the opcode map (30_encoding.md R102). -/
def opcodeRowF : List Form :=
  [.byte .beq, .byte .sbcIzy, .whole (.xxx 0xF2), .whole (.xxx 0xF3),
    .whole (.xxx 0xF4), .byte .sbcZpx, .byte .incZpx, .whole (.xxx 0xF7),
    .whole .sed, .addr .sbcAby, .whole (.xxx 0xFA), .whole (.xxx 0xFB),
    .whole (.xxx 0xFC), .addr .sbcAbx, .addr .incAbx, .whole (.xxx 0xFF)]

/-- The opcode map, one row for each high nibble (30_encoding.md R102). -/
def opcodeMap : List (List Form) :=
  [opcodeRow0, opcodeRow1, opcodeRow2, opcodeRow3, opcodeRow4, opcodeRow5, opcodeRow6, opcodeRow7,
    opcodeRow8, opcodeRow9, opcodeRowA, opcodeRowB, opcodeRowC, opcodeRowD, opcodeRowE, opcodeRowF]

/-- The form of an opcode byte (30_encoding.md R102, R103). -/
def formOf (op : Byte) : Form :=
  (opcodeMap.getD (op.toNat / 16) []).getD (op.toNat % 16) (.whole (.xxx op))

/-- Why a list of bytes holds no instruction: it ends too early. No byte value is ever a reason
(30_encoding.md R103). -/
inductive DecodeError where
  /-- There is no opcode byte. -/
  | noOpcode
  /-- The operand bytes of this opcode byte do not all follow it. -/
  | missingOperand (op : Byte)
  deriving DecidableEq, Repr

/-- The instruction at the front of a list of bytes and the bytes after it, under a BRK_MODE. -/
def decodeWith (m : BrkMode) : List Byte → Except DecodeError (Instr × List Byte)
  | [] => .error .noOpcode
  | op :: rest =>
    match formOf op with
    | .whole i => .ok (i, rest)
    | .byte f =>
      match rest with
      | b :: rest' => .ok (f b, rest')
      | [] => .error (.missingOperand op)
    | .addr f =>
      match rest with
      | lo :: hi :: rest' => .ok (f (word hi lo), rest')
      | _ => .error (.missingOperand op)
    | .brk =>
      match m, rest with
      | .imp, _ => .ok (.brk, rest)
      | .imm, _ :: rest' => .ok (.brk, rest')
      | .imm, [] => .error (.missingOperand op)

/-- The instruction at the front of a list of bytes and the bytes after it, at the default BRK_MODE. -/
def decode (bs : List Byte) : Except DecodeError (Instr × List Byte) := decodeWith brkMode bs

/-- The bytes of an instruction whose bits are `w`, bit 0 the lowest of the first byte, and of which the
table gives `nbits`: as many bytes as the longest instruction has, zero above `nbits`. -/
def tableBytes (nbits w : Nat) : List Byte :=
  let v := w % 2 ^ nbits
  [BitVec.ofNat 8 v, BitVec.ofNat 8 (v / 256), BitVec.ofNat 8 (v / 65536)]

/-- The instruction the decoder reads, at the default BRK_MODE, from the bits of a row of
spec/opcode_table.json. -/
def decodeTableWord (nbits w : Nat) : Option Instr :=
  match decode (tableBytes nbits w) with
  | .ok (i, _) => some i
  | .error _ => none

end Sys2Proof
end

