-- ==== Sys2Proof/Machine/State.lean ====
section
/-! DEFINITION. The machine state (spec 10_state.md R42, 70_reset_and_hazards.md R320-R324): the register
file, the cycle counter, the transient fields, the reset marker, the bus devices with their backing
stores, the parameters the machine was built with, and the host's commands still to come. All of it is plain
data. -/

namespace Sys2Proof.Machine

/-- The backing bytes of a memory device, as (address, byte) cells: addresses strictly rising, no byte
equal to what an unlisted address reads as (`Memory.wf` in Machine/Memory.lean). -/
abbrev Memory := List Host.Cell

/-- The behaviour of a bus device together with its backing state (20_memory.md R64). -/
inductive DeviceStore where
  /-- Plain memory, indexed by the full bus address, with no read side effects (20_memory.md R70, R71). -/
  | memory (cells : Memory)
  /-- Any other device: the behaviour is the parameter DEVICE_BEHAVIOUR at this kind
  (`Config.deviceRead`, `Config.deviceWrite`), over this state (20_memory.md R73). -/
  | other (kind : Nat) (data : List Byte)
  deriving DecidableEq, Repr

/-- A bus device (20_memory.md R64): it owns `lower` to `upper` inclusive, in the permitted directions. -/
structure Device where
  lower    : Word
  upper    : Word
  readable : Bool
  writable : Bool
  store    : DeviceStore
  deriving DecidableEq, Repr

/-- The host's commands (40_execution_and_addressing.md R130). -/
inductive HostCommand where
  | clock
  | reset
  | irq
  | nmi
  deriving DecidableEq, Repr

/-- The whole machine state (10_state.md R42), and two fields more. `params` holds the parameters BRK_MODE and
BASE_CYCLES the machine was built with, and never changes (DESIGN CHOICE of the place, assumptions 6, 7).
`hostCommands` is the model's own: the host's next commands, oldest first; when it is empty the host clocks
(DESIGN CHOICE, assumption 2). -/
structure State where
  /-- Accumulator A (10_state.md R21). -/
  a            : Byte
  /-- Index register X (10_state.md R22). -/
  x            : Byte
  /-- Index register Y (10_state.md R22). -/
  y            : Byte
  /-- Stack pointer S, an offset into page 1 (10_state.md R23). -/
  sp           : Byte
  /-- Program counter PC (10_state.md R24). -/
  pc           : Word
  /-- Status register P: C 0, Z 1, I 2, D 3, B 4, U 5, V 6, N 7 (10_state.md R25). -/
  p            : Byte
  /-- Remaining cycles (10_state.md R36). -/
  cycles       : Nat
  /-- Clock calls since the last reset (10_state.md R37). -/
  totalCycles  : Nat
  /-- The current opcode byte (10_state.md R39). -/
  opcode       : Byte
  /-- The operand byte (10_state.md R39). -/
  fetched      : Byte
  /-- The scratch value for carry and overflow (10_state.md R39). -/
  temp         : Word
  /-- The effective address `addr_abs` (10_state.md R39). -/
  addrAbs      : Word
  /-- The sign-extended branch displacement `addr_rel` (10_state.md R39). -/
  addrRel      : Word
  /-- `reset_done`: reset() has run at least once (10_state.md R42, 70_reset_and_hazards.md R320). -/
  resetDone    : Bool
  /-- The ordered device list DEVICES (10_state.md R41, 20_memory.md R64). -/
  devices      : List Device
  /-- The parameters BRK_MODE and BASE_CYCLES, fixed at construction (00_scope.md R7, 30_encoding.md R103). -/
  params       : Params
  /-- The host's commands still to come (the model's own field, assumption 2). -/
  hostCommands : List HostCommand
  deriving DecidableEq, Repr

/-- Why the machine stops with a fault: never. "The hardware raises no exception of any kind"
(60_exceptions.md R281), so there is no constructor: no step can fault (safe). -/
inductive Fault where
  deriving DecidableEq, Repr

/-- Why a command or a configuration is refused. -/
inductive Refusal where
  /-- Raised by `exec` for an instruction that has no meaning yet: by none, all have one (safe). -/
  | notModelled (mnemonic : String)
  /-- Raised by `command` for Clock, Irq or Nmi before the first Reset: the spec refuses them
  (70_reset_and_hazards.md R323), so it is no difference from the hardware described (safe). -/
  | beforeFirstReset
  /-- Raised by `construct` for an ill-formed device list: the spec refuses to build the machine
  (20_memory.md R72, 60_exceptions.md R282; safe). -/
  | malformedConfiguration
  deriving DecidableEq, Repr

/-- The RAM device as constructed: the whole address space, both directions, every byte 0x00
(20_memory.md R71). -/
def Device.ram : Device :=
  { lower := 0x0000, upper := 0xFFFF, readable := true, writable := true, store := .memory [] }

/-- The machine right after reset() (70_reset_and_hazards.md R321, R324) in the default configuration
`[RAM]` (20_memory.md R72) at the default parameters (00_scope.md R7) with nothing loaded: the reset vector
reads 0x0000 (R325). -/
def State.reset : State :=
  { a := 0x00, x := 0x00, y := 0x00, sp := 0xFD, pc := 0x0000, p := 0x20,
    cycles := 8, totalCycles := 0,
    opcode := 0x00, fetched := 0x00, temp := 0x0000, addrAbs := 0x0000, addrRel := 0x0000,
    resetDone := true, devices := [Device.ram], params := defaultParams, hostCommands := [] }

/-- The base cycle count of an opcode byte in this machine: its BASE_CYCLES (00_scope.md R7). -/
def State.baseCycles (s : State) (op : Byte) : Nat := s.params.base op

end Sys2Proof.Machine
end

