-- ==== Sys2Proof/Machine/Flags.lean ====
section
/-! DEFINITION. The flags of the status register and every flag computation of the alu
(spec 10_state.md R25-R33, 42_arithmetic_logic.md, 43_shift_rotate.md). P stays a byte, so that pushing and
pulling it keeps all eight bits. -/

namespace Sys2Proof.Machine

/-- The eight flags of P (10_state.md R25). -/
inductive Flag where
  | c | z | i | d | b | u | v | n
  deriving DecidableEq, Repr

/-- The bit position of a flag in P (10_state.md R25). -/
def Flag.pos : Flag → Nat
  | .c => 0
  | .z => 1
  | .i => 2
  | .d => 3
  | .b => 4
  | .u => 5
  | .v => 6
  | .n => 7

/-- The mask of a flag: `C = 0x01, Z = 0x02, I = 0x04, D = 0x08, B = 0x10, U = 0x20, V = 0x40, N = 0x80`
(10_state.md R25). -/
def Flag.mask (f : Flag) : Byte := 0x01#8 <<< f.pos

/-- The value of a flag in a status byte. -/
def getFlag (p : Byte) (f : Flag) : Bool := p.getLsbD f.pos

/-- A status byte with one flag written and the others kept. -/
def putFlag (p : Byte) (f : Flag) (v : Bool) : Byte :=
  if v then p ||| f.mask else p &&& ~~~ f.mask

/-- The value of a flag in the live P. -/
def State.flag (s : State) (f : Flag) : Bool := getFlag s.p f

/-- Write a flag of the live P. -/
def State.setFlag (s : State) (f : Flag) (v : Bool) : State := { s with p := putFlag s.p f v }

/-- `ZN(v)`: `P.Z <- (v = 0); P.N <- v[7]` (00_scope.md R9). -/
def State.setZN (s : State) (v : Byte) : State :=
  (s.setFlag .z (decide (v = 0x00))).setFlag .n (v.getLsbD 7)

/-- `tmp <- A + M + P.C`, on naturals, 0 to 511 (42_arithmetic_logic.md R190). -/
def addTmp (a m : Byte) (c : Bool) : Nat := a.toNat + m.toNat + bit c

/-- `tmp[7:0]`, the sum's result byte (42_arithmetic_logic.md R190). -/
def addResult (a m : Byte) (c : Bool) : Byte := BitVec.ofNat 8 (addTmp a m c)

/-- `P.C <- (tmp > 255)` (42_arithmetic_logic.md R190). -/
def addCarry (a m : Byte) (c : Bool) : Bool := decide (255 < addTmp a m c)

/-- `P.V <- ((~(A ^ M) & (A ^ tmp) & 0x80) != 0)` (42_arithmetic_logic.md R190). -/
def addOverflow (a m : Byte) (c : Bool) : Bool :=
  decide ((~~~ (a ^^^ m) &&& (a ^^^ addResult a m c) &&& 0x80) ≠ 0x00)

/-- The binary addition ADC and SBC share (42_arithmetic_logic.md R190, R191): into A, with C, Z, V and N
in that order; `temp` holds the wide sum (10_state.md R39, assumption 8). P.D has no effect (R261). -/
def State.addWithCarry (s : State) (m : Byte) : State :=
  let c := s.flag .c
  let r := addResult s.a m c
  let s1 := { s with temp := BitVec.ofNat 16 (addTmp s.a m c) }
  let s2 := s1.setFlag .c (addCarry s.a m c)
  let s3 := s2.setFlag .z (decide (r = 0x00))
  let s4 := s3.setFlag .v (addOverflow s.a m c)
  let s5 := s4.setFlag .n (r.getLsbD 7)
  { s5 with a := r }

/-- The comparison CMP, CPX and CPY share (42_arithmetic_logic.md R196-R198): `P.C <- (r >= M)`, Z and N
from `r - M` modulo 256. -/
def State.compare (s : State) (r m : Byte) : State :=
  (s.setFlag .c (decide (m.toNat ≤ r.toNat))).setZN (r - m)

/-- BIT (42_arithmetic_logic.md R195): Z from `A & M`, N and V from bits 7 and 6 of M. -/
def State.bitTest (s : State) (m : Byte) : State :=
  let s1 := s.setFlag .z (decide (s.a &&& m = 0x00))
  let s2 := s1.setFlag .n (m.getLsbD 7)
  s2.setFlag .v (m.getLsbD 6)

/-- A shift's or rotate's result byte and its new carry. -/
structure Shifted where
  result : Byte
  carry  : Bool
  deriving DecidableEq, Repr

/-- ASL (43_shift_rotate.md R221): `r <- (M << 1)[7:0]`, C is old bit 7. -/
def shiftAsl (m : Byte) (_c : Bool) : Shifted := { result := m <<< 1, carry := m.getLsbD 7 }

/-- LSR (43_shift_rotate.md R222): `r <- M >> 1`, C is old bit 0. -/
def shiftLsr (m : Byte) (_c : Bool) : Shifted := { result := m >>> 1, carry := m.getLsbD 0 }

/-- ROL (43_shift_rotate.md R223): `r <- ((M << 1) | P.C)[7:0]`, C is old bit 7. -/
def shiftRol (m : Byte) (c : Bool) : Shifted :=
  { result := (m <<< 1) ||| BitVec.ofNat 8 (bit c), carry := m.getLsbD 7 }

/-- ROR (43_shift_rotate.md R224): `r <- (P.C << 7) | (M >> 1)`, C is old bit 0. -/
def shiftRor (m : Byte) (c : Bool) : Shifted :=
  { result := (BitVec.ofNat 8 (bit c) <<< 7) ||| (m >>> 1), carry := m.getLsbD 0 }

end Sys2Proof.Machine
end

