-- ==== Sys2Proof/Machine/Memory.lean ====
section
/-! DEFINITION. The backing store of a memory device: a canonical list of cells (spec 20_memory.md R71). -/

namespace Sys2Proof.Machine

/-- What an address that no cell lists reads as: RAM is "zero-initialized at construction"
(20_memory.md R71). -/
def Memory.unlisted : Byte := 0x00

/-- The byte at an address: the one its cell holds, or `unlisted`. -/
def Memory.read : Memory → Nat → Byte
  | [], _ => Memory.unlisted
  | (b, v) :: m, a => if a = b then v else Memory.read m a

/-- The cells that hold `v` at `a` in front of `m`: none where `v` is what an unlisted address reads as. -/
def Memory.cons (a : Nat) (v : Byte) (m : Memory) : Memory :=
  if v = Memory.unlisted then m else (a, v) :: m

/-- Write a byte, keeping the canonical form: the cells stay sorted, and writing what an unlisted address
reads as removes the cell. -/
def Memory.write : Memory → Nat → Byte → Memory
  | [], a, v => Memory.cons a v []
  | (b, w) :: m, a, v =>
    if a < b then Memory.cons a v ((b, w) :: m)
    else if a = b then Memory.cons a v m
    else (b, w) :: Memory.write m a v

/-- The canonical form from an address bound on: every address is at least `lo` and below 65536 (20_memory.md
R60, R71), the addresses strictly rise, and no cell holds what an unlisted address reads as. -/
def Memory.wfFrom : Nat → Memory → Bool
  | _, [] => true
  | lo, (a, v) :: m =>
    decide (lo ≤ a) && decide (a < 65536) && decide (v ≠ Memory.unlisted) && Memory.wfFrom (a + 1) m

/-- The canonical form of a backing store. -/
def Memory.wf (m : Memory) : Bool := Memory.wfFrom 0 m

end Sys2Proof.Machine
end

