-- ==== Sys2Proof/Machine/Ops.lean ====
section
/-! DEFINITION. The named operations over the bus, the stack and the vectors, and the shared entry to and
return from a handler (spec 20_memory.md, 00_scope.md R9, 60_exceptions.md). A read of a device other than
plain memory may change that device's state (20_memory.md R73, R77), so a read gives the byte AND the
state after it. -/

namespace Sys2Proof.Machine

/-! ## The memory_bus_router -/

/-- `lower <= a <= upper` (20_memory.md R65). -/
def Device.covers (d : Device) (a : Word) : Bool :=
  decide (d.lower.toNat ≤ a.toNat) && decide (a.toNat ≤ d.upper.toNat)

/-- The device handles a read at `a` (20_memory.md R65). -/
def Device.handlesRead (d : Device) (a : Word) : Bool := d.covers a && d.readable

/-- The device handles a write at `a` (20_memory.md R65). -/
def Device.handlesWrite (d : Device) (a : Word) : Bool := d.covers a && d.writable

/-- The device's read function at the full bus address (20_memory.md R70): the byte and the device after
it. Plain memory ignores `read_only` (R71); a read with `read_only = true` leaves any device as it is
(R73). -/
def Device.read (d : Device) (a : Word) (readOnly : Bool) : Byte × Device :=
  match d.store with
  | .memory cells => (Memory.read cells a.toNat, d)
  | .other kind data =>
    let r := Config.deviceRead kind data a readOnly
    (r.1, if readOnly then d else { d with store := .other kind r.2 })

/-- The device's write function at the full bus address (20_memory.md R70, R71, R73). -/
def Device.write (d : Device) (a : Word) (v : Byte) : Device :=
  match d.store with
  | .memory cells => { d with store := .memory (Memory.write cells a.toNat v) }
  | .other kind data => { d with store := .other kind (Config.deviceWrite kind data a v) }

/-- device_selector, read (20_memory.md R67-R69): the first device in registration order that handles it;
none: 0x00 and nothing changes. -/
def Bus.read : List Device → Word → Bool → Byte × List Device
  | [], _, _ => (0x00, [])
  | d :: ds, a, readOnly =>
    if d.handlesRead a then
      let r := d.read a readOnly
      (r.1, r.2 :: ds)
    else
      let r := Bus.read ds a readOnly
      (r.1, d :: r.2)

/-- device_selector, write (20_memory.md R66, R68): the first device in registration order that handles it;
none: the write is silently discarded. -/
def Bus.write : List Device → Word → Byte → List Device
  | [], _, _ => []
  | d :: ds, a, v => if d.handlesWrite a then d.write a v :: ds else d :: Bus.write ds a v

/-- A configuration is well formed (20_memory.md R72): every `lower <= upper`, some device readable, some
device writable. Overlaps are allowed. -/
def Bus.wellFormed (ds : List Device) : Bool :=
  ds.all (fun d => decide (d.lower.toNat ≤ d.upper.toNat)) && ds.any (·.readable) && ds.any (·.writable)

/-! ## The core's bus interface -/

/-- `MemRead(a, 1)`: one bus read with `read_only = false` (20_memory.md R62). -/
def State.memRead (s : State) (a : Word) : Byte × State :=
  let r := Bus.read s.devices a false
  (r.1, { s with devices := r.2 })

/-- `MemWrite(a, 1, v)`: one bus write (20_memory.md R63). -/
def State.memWrite (s : State) (a : Word) (v : Byte) : State :=
  { s with devices := Bus.write s.devices a v }

/-- A read with `read_only = true`, as the host observes memory: no state changes
(20_memory.md R69, R73; 70_reset_and_hazards.md R331). -/
def State.peek (s : State) (a : Word) : Byte := (Bus.read s.devices a true).1

/-- Read the byte at PC and increment PC, modulo 65536 (10_state.md R24). -/
def State.readPc (s : State) : Byte × State :=
  let r := s.memRead s.pc
  (r.1, { r.2 with pc := s.pc + 1 })

/-! ## The stack and the vectors (00_scope.md R9, 10_state.md R23) -/

/-- The address of the stack byte S names: `0x0100 + S`. -/
def stackAddr (sp : Byte) : Word := 0x0100 + zext16 sp

/-- `Push(v)`: `MemWrite(0x0100 + S, 1, v); S <- S -8 1` (00_scope.md R9). -/
def State.push (s : State) (v : Byte) : State :=
  let s1 := s.memWrite (stackAddr s.sp) v
  { s1 with sp := s.sp - 1 }

/-- `Pull()`: `S <- S +8 1; return MemRead(0x0100 + S, 1)` (00_scope.md R9). -/
def State.pull (s : State) : Byte × State :=
  let s1 := { s with sp := s.sp + 1 }
  s1.memRead (stackAddr s1.sp)

/-- Push an address: the high byte first, so that the low byte lands lower (20_memory.md R74). -/
def State.pushWord (s : State) (w : Word) : State := (s.push (hi8 w)).push (lo8 w)

/-- Pull an address: the low byte first (44_control_flow.md R241, 45_stack_flags_system.md R264). -/
def State.pullWord (s : State) : Word × State :=
  let lo := s.pull
  let hi := lo.2.pull
  (word hi.1 lo.1, hi.2)

/-- `ReadVec(a)`: the low byte at `a`, then the high byte at `a + 1` (00_scope.md R9, 20_memory.md R74). -/
def State.readVec (s : State) (a : Word) : Word × State :=
  let lo := s.memRead a
  let hi := lo.2.memRead (a + 1)
  (word hi.1 lo.1, hi.2)

/-- The NMI vector (60_exceptions.md R280). -/
def nmiVector : Word := 0xFFFA

/-- The reset vector (60_exceptions.md R280). -/
def resetVector : Word := 0xFFFC

/-- The vector IRQ and BRK share (60_exceptions.md R280). -/
def irqVector : Word := 0xFFFE

/-! ## Entering a handler and returning from it -/

/-- Enter a handler (60_exceptions.md R280): push PCH, PCL and the status byte `stacked`, make `live` the
status, and load PC from `vector`. irq(), nmi() and BRK all enter this way; they differ in the two status
bytes, the vector and the cycle count. -/
def State.enterHandler (s : State) (stacked live : Byte) (vector : Word) : State :=
  let s1 := (s.pushWord s.pc).push stacked
  let r := State.readVec { s1 with p := live } vector
  { r.2 with pc := r.1 }

/-- The return RTI makes (45_stack_flags_system.md R264, 60_exceptions.md R289): P is the pulled byte with B
and U cleared, then PC is the pulled address, not incremented. -/
def State.returnFromHandler (s : State) : State :=
  let r := s.pull
  let s1 := { r.2 with p := putFlag (putFlag r.1 .b false) .u false }
  let w := s1.pullWord
  { w.2 with pc := w.1 }

end Sys2Proof.Machine
end

