-- ==== Sys2Proof/Machine/Operands.lean ====
section
/-! DEFINITION. The addressing_mux (spec 40_execution_and_addressing.md R139-R152): the twelve addressing
routines, fetch(), the write-back, and how an instruction runs its routine and its operation (R131).

The routines act on a state whose PC is already past the instruction's bytes, which `fetchWith`
(Machine/Fetch.lean) read in the routine's own order: opcode, low operand byte, high operand byte. No bus
access stands between those reads and the rest of the routine, so every access happens in the spec's
order. The byte of Immediate mode is read there too, as fetch()'s one read of it (R141: "no rule's result
depends on which"); BRK, which calls no fetch(), has no byte read (assumption 3). -/

namespace Sys2Proof.Machine

/-- An addressing routine's answer: the state with `addr_abs`, `addr_rel` or `fetched` written, and its
extra-cycle bit (R134). -/
abbrev Resolved := State × Bool

/-- ABX, ABY and the end of IZY (R147, R148, R151): the 16-bit sum with an index register; the extra-cycle
bit says that the high byte changed. -/
def State.indexed (s : State) (base : Word) (index : Byte) : Resolved :=
  let ea := base + zext16 index
  ({ s with addrAbs := ea }, decide (hi8 ea ≠ hi8 base))

/-- Read a pointer's low byte, then its high byte (R149-R151, 92_eei_decisions.md D7, D10). -/
def State.readPointer (s : State) (loAddr hiAddr : Word) : Word × State :=
  let lo := s.memRead loAddr
  let hi := lo.2.memRead hiAddr
  (word hi.1 lo.1, hi.2)

/-- Where Indirect mode reads the high byte (R149): at the start of the same page when the pointer's low
byte is 0xFF, else at the next address. -/
def indirectHighAddr (ptr : Word) : Word :=
  if lo8 ptr = 0xFF then word (hi8 ptr) 0x00 else ptr + 1

end Sys2Proof.Machine

namespace Sys2Proof

open Sys2Proof.Machine

/-- The addressing routines IMP, IMM, ZP0, ZPX, ZPY, REL, ABS, ABX, ABY, IND, IZX, IZY (R140-R151). -/
def Operand.resolve (o : Operand) (s : State) : Resolved :=
  match o with
  | .imp => ({ s with fetched := s.a }, false)
  | .imm _ => ({ s with addrAbs := s.pc - 1 }, false)
  | .zp0 zp => ({ s with addrAbs := zext16 zp }, false)
  | .zpx zp => ({ s with addrAbs := zext16 (zp + s.x) }, false)
  | .zpy zp => ({ s with addrAbs := zext16 (zp + s.y) }, false)
  | .rel b => ({ s with addrRel := sext16 b }, false)
  | .abs addr => ({ s with addrAbs := addr }, false)
  | .abx addr => s.indexed addr s.x
  | .aby addr => s.indexed addr s.y
  | .ind ptr =>
    let r := s.readPointer ptr (indirectHighAddr ptr)
    ({ r.2 with addrAbs := r.1 }, false)
  | .izx t =>
    let r := s.readPointer (zext16 (t + s.x)) (zext16 (t + s.x + 1))
    ({ r.2 with addrAbs := r.1 }, false)
  | .izy t =>
    let r := s.readPointer (zext16 t) (zext16 (t + 1))
    r.2.indexed r.1 r.2.y

end Sys2Proof

namespace Sys2Proof.Machine

/-- fetch() (R139): the operand byte M and the state with `fetched` written. IMP gives the copy of A its
routine made; IMM the byte after the opcode, read by `fetchWith`; every other mode one read of
`addr_abs`. -/
def State.fetchOperand (s : State) (o : Operand) : Byte × State :=
  match o with
  | .imp => (s.fetched, s)
  | .imm b => (b, { s with fetched := b })
  | .zp0 _ | .zpx _ | .zpy _ | .rel _ | .abs _ | .abx _ | .aby _ | .ind _ | .izx _ | .izy _ =>
    let r := s.memRead s.addrAbs
    (r.1, { r.2 with fetched := r.1 })

/-- The write-back of a shift or rotate (43_shift_rotate.md R220): A in Implied mode, else the byte at
`addr_abs`. -/
def State.writeBack (s : State) (o : Operand) (r : Byte) : State :=
  match o with
  | .imp => { s with a := r }
  | .imm _ | .zp0 _ | .zpx _ | .zpy _ | .rel _ | .abs _ | .abx _ | .aby _ | .ind _ | .izx _ | .izy _ =>
    s.memWrite s.addrAbs r

/-- An operation routine: the state after it and the bit it returns on the extra-cycle channel (R134). -/
abbrev Operation := Operand → State → State × Bool

/-- The part of clock() between the opcode fetch and the last write of U (R131): `cycles <- base`, from the
machine's BASE_CYCLES, the addressing routine, the operation routine, and the extra cycle when both
returned 1. -/
def runOp (op : Byte) (o : Operand) (f : Operation) (s : State) : State :=
  let r := o.resolve { s with cycles := s.baseCycles op }
  let t := f o r.1
  { t.1 with cycles := t.1.cycles + bit (r.2 && t.2) }

/-- An instruction's meaning: its opcode's base cycles, its operand, its operation. No instruction faults
(60_exceptions.md R281). -/
def run (op : Byte) (o : Operand) (f : Operation) (s : State) : Host.Outcome State Fault Refusal :=
  .next (runOp op o f s)

end Sys2Proof.Machine

namespace Sys2Proof

open Sys2Proof.Machine

/-! Names for what an operand stands for in a state, as the statements use them. -/

/-- The effective address an operand's routine computes in a state. -/
def Operand.address (o : Operand) (s : State) : Word := (o.resolve s).1.addrAbs

/-- The operand byte M: what fetch() gives after the operand's routine in a state. -/
def Operand.value (o : Operand) (s : State) : Byte := ((o.resolve s).1.fetchOperand o).1

/-- The addressing routine's extra-cycle bit in a state. -/
def Operand.crosses (o : Operand) (s : State) : Bool := (o.resolve s).2

end Sys2Proof
end

