-- ==== Sys2Proof/Machine/Arithmetic.lean ====
section
/-! DEFINITION. Arithmetic, logic, compare, increment and decrement (spec 42_arithmetic_logic.md R190-R205).
All arithmetic is binary and wraps modulo 256 (R205). -/

namespace Sys2Proof.Machine

/-! ## Addition and subtraction -/

/-- ADC: `M <- fetch()`, then the binary addition of A, M and C; returns 1 (R190). -/
def opAdc : Operation := fun o s =>
  let r := s.fetchOperand o
  (r.2.addWithCarry r.1, true)

/-- 0x69 ADC IMM (R190). -/
def execAdcImm (imm : Byte) (s : State) : Host.Outcome State Fault Refusal :=
  run 0x69 (.imm imm) opAdc s

/-- 0x65 ADC ZP0 (R190). -/
def execAdcZp0 (zp : Byte) (s : State) : Host.Outcome State Fault Refusal :=
  run 0x65 (.zp0 zp) opAdc s

/-- 0x75 ADC ZPX (R190). -/
def execAdcZpx (zp : Byte) (s : State) : Host.Outcome State Fault Refusal :=
  run 0x75 (.zpx zp) opAdc s

/-- 0x6D ADC ABS (R190). -/
def execAdcAbs (addr : Word) (s : State) : Host.Outcome State Fault Refusal :=
  run 0x6D (.abs addr) opAdc s

/-- 0x7D ADC ABX (R190). -/
def execAdcAbx (addr : Word) (s : State) : Host.Outcome State Fault Refusal :=
  run 0x7D (.abx addr) opAdc s

/-- 0x79 ADC ABY (R190). -/
def execAdcAby (addr : Word) (s : State) : Host.Outcome State Fault Refusal :=
  run 0x79 (.aby addr) opAdc s

/-- 0x61 ADC IZX (R190). -/
def execAdcIzx (zp : Byte) (s : State) : Host.Outcome State Fault Refusal :=
  run 0x61 (.izx zp) opAdc s

/-- 0x71 ADC IZY (R190). -/
def execAdcIzy (zp : Byte) (s : State) : Host.Outcome State Fault Refusal :=
  run 0x71 (.izy zp) opAdc s

/-- SBC: as ADC "with the fetched byte's bitwise complement substituted for fetched"; returns 1 (R191). -/
def opSbc : Operation := fun o s =>
  let r := s.fetchOperand o
  (r.2.addWithCarry (r.1 ^^^ 0xFF), true)

/-- 0xE9 SBC IMM (R191). -/
def execSbcImm (imm : Byte) (s : State) : Host.Outcome State Fault Refusal :=
  run 0xE9 (.imm imm) opSbc s

/-- 0xE5 SBC ZP0 (R191). -/
def execSbcZp0 (zp : Byte) (s : State) : Host.Outcome State Fault Refusal :=
  run 0xE5 (.zp0 zp) opSbc s

/-- 0xF5 SBC ZPX (R191). -/
def execSbcZpx (zp : Byte) (s : State) : Host.Outcome State Fault Refusal :=
  run 0xF5 (.zpx zp) opSbc s

/-- 0xED SBC ABS (R191). -/
def execSbcAbs (addr : Word) (s : State) : Host.Outcome State Fault Refusal :=
  run 0xED (.abs addr) opSbc s

/-- 0xFD SBC ABX (R191). -/
def execSbcAbx (addr : Word) (s : State) : Host.Outcome State Fault Refusal :=
  run 0xFD (.abx addr) opSbc s

/-- 0xF9 SBC ABY (R191). -/
def execSbcAby (addr : Word) (s : State) : Host.Outcome State Fault Refusal :=
  run 0xF9 (.aby addr) opSbc s

/-- 0xE1 SBC IZX (R191). -/
def execSbcIzx (zp : Byte) (s : State) : Host.Outcome State Fault Refusal :=
  run 0xE1 (.izx zp) opSbc s

/-- 0xF1 SBC IZY (R191). -/
def execSbcIzy (zp : Byte) (s : State) : Host.Outcome State Fault Refusal :=
  run 0xF1 (.izy zp) opSbc s

/-! ## Logic -/

/-- AND: `M <- fetch(); A <- A & M; ZN(A)`; returns 1 (R192). -/
def opAnd : Operation := fun o s =>
  let r := s.fetchOperand o
  (State.setZN { r.2 with a := r.2.a &&& r.1 } (r.2.a &&& r.1), true)

/-- 0x29 AND IMM (R192). -/
def execAndImm (imm : Byte) (s : State) : Host.Outcome State Fault Refusal :=
  run 0x29 (.imm imm) opAnd s

/-- 0x25 AND ZP0 (R192). -/
def execAndZp0 (zp : Byte) (s : State) : Host.Outcome State Fault Refusal :=
  run 0x25 (.zp0 zp) opAnd s

/-- 0x35 AND ZPX (R192). -/
def execAndZpx (zp : Byte) (s : State) : Host.Outcome State Fault Refusal :=
  run 0x35 (.zpx zp) opAnd s

/-- 0x2D AND ABS (R192). -/
def execAndAbs (addr : Word) (s : State) : Host.Outcome State Fault Refusal :=
  run 0x2D (.abs addr) opAnd s

/-- 0x3D AND ABX (R192). -/
def execAndAbx (addr : Word) (s : State) : Host.Outcome State Fault Refusal :=
  run 0x3D (.abx addr) opAnd s

/-- 0x39 AND ABY (R192). -/
def execAndAby (addr : Word) (s : State) : Host.Outcome State Fault Refusal :=
  run 0x39 (.aby addr) opAnd s

/-- 0x21 AND IZX (R192). -/
def execAndIzx (zp : Byte) (s : State) : Host.Outcome State Fault Refusal :=
  run 0x21 (.izx zp) opAnd s

/-- 0x31 AND IZY (R192). -/
def execAndIzy (zp : Byte) (s : State) : Host.Outcome State Fault Refusal :=
  run 0x31 (.izy zp) opAnd s

/-- ORA: `M <- fetch(); A <- A | M; ZN(A)`; returns 1 (R193). -/
def opOra : Operation := fun o s =>
  let r := s.fetchOperand o
  (State.setZN { r.2 with a := r.2.a ||| r.1 } (r.2.a ||| r.1), true)

/-- 0x09 ORA IMM (R193). -/
def execOraImm (imm : Byte) (s : State) : Host.Outcome State Fault Refusal :=
  run 0x09 (.imm imm) opOra s

/-- 0x05 ORA ZP0 (R193). -/
def execOraZp0 (zp : Byte) (s : State) : Host.Outcome State Fault Refusal :=
  run 0x05 (.zp0 zp) opOra s

/-- 0x15 ORA ZPX (R193). -/
def execOraZpx (zp : Byte) (s : State) : Host.Outcome State Fault Refusal :=
  run 0x15 (.zpx zp) opOra s

/-- 0x0D ORA ABS (R193). -/
def execOraAbs (addr : Word) (s : State) : Host.Outcome State Fault Refusal :=
  run 0x0D (.abs addr) opOra s

/-- 0x1D ORA ABX (R193). -/
def execOraAbx (addr : Word) (s : State) : Host.Outcome State Fault Refusal :=
  run 0x1D (.abx addr) opOra s

/-- 0x19 ORA ABY (R193). -/
def execOraAby (addr : Word) (s : State) : Host.Outcome State Fault Refusal :=
  run 0x19 (.aby addr) opOra s

/-- 0x01 ORA IZX (R193). -/
def execOraIzx (zp : Byte) (s : State) : Host.Outcome State Fault Refusal :=
  run 0x01 (.izx zp) opOra s

/-- 0x11 ORA IZY (R193). -/
def execOraIzy (zp : Byte) (s : State) : Host.Outcome State Fault Refusal :=
  run 0x11 (.izy zp) opOra s

/-- EOR: `M <- fetch(); A <- A ^ M; ZN(A)`; returns 1 (R194). -/
def opEor : Operation := fun o s =>
  let r := s.fetchOperand o
  (State.setZN { r.2 with a := r.2.a ^^^ r.1 } (r.2.a ^^^ r.1), true)

/-- 0x49 EOR IMM (R194). -/
def execEorImm (imm : Byte) (s : State) : Host.Outcome State Fault Refusal :=
  run 0x49 (.imm imm) opEor s

/-- 0x45 EOR ZP0 (R194). -/
def execEorZp0 (zp : Byte) (s : State) : Host.Outcome State Fault Refusal :=
  run 0x45 (.zp0 zp) opEor s

/-- 0x55 EOR ZPX (R194). -/
def execEorZpx (zp : Byte) (s : State) : Host.Outcome State Fault Refusal :=
  run 0x55 (.zpx zp) opEor s

/-- 0x4D EOR ABS (R194). -/
def execEorAbs (addr : Word) (s : State) : Host.Outcome State Fault Refusal :=
  run 0x4D (.abs addr) opEor s

/-- 0x5D EOR ABX (R194). -/
def execEorAbx (addr : Word) (s : State) : Host.Outcome State Fault Refusal :=
  run 0x5D (.abx addr) opEor s

/-- 0x59 EOR ABY (R194). -/
def execEorAby (addr : Word) (s : State) : Host.Outcome State Fault Refusal :=
  run 0x59 (.aby addr) opEor s

/-- 0x41 EOR IZX (R194). -/
def execEorIzx (zp : Byte) (s : State) : Host.Outcome State Fault Refusal :=
  run 0x41 (.izx zp) opEor s

/-- 0x51 EOR IZY (R194). -/
def execEorIzy (zp : Byte) (s : State) : Host.Outcome State Fault Refusal :=
  run 0x51 (.izy zp) opEor s

/-- BIT: Z from `A & M`, N and V from M; A unchanged; returns 0 (R195). -/
def opBit : Operation := fun o s =>
  let r := s.fetchOperand o
  (r.2.bitTest r.1, false)

/-- 0x24 BIT ZP0 (R195). -/
def execBitZp0 (zp : Byte) (s : State) : Host.Outcome State Fault Refusal :=
  run 0x24 (.zp0 zp) opBit s

/-- 0x2C BIT ABS (R195). -/
def execBitAbs (addr : Word) (s : State) : Host.Outcome State Fault Refusal :=
  run 0x2C (.abs addr) opBit s

/-! ## Compare -/

/-- CMP: compare A with M; returns 1 (R196). -/
def opCmp : Operation := fun o s =>
  let r := s.fetchOperand o
  (r.2.compare r.2.a r.1, true)

/-- 0xC9 CMP IMM (R196). -/
def execCmpImm (imm : Byte) (s : State) : Host.Outcome State Fault Refusal :=
  run 0xC9 (.imm imm) opCmp s

/-- 0xC5 CMP ZP0 (R196). -/
def execCmpZp0 (zp : Byte) (s : State) : Host.Outcome State Fault Refusal :=
  run 0xC5 (.zp0 zp) opCmp s

/-- 0xD5 CMP ZPX (R196). -/
def execCmpZpx (zp : Byte) (s : State) : Host.Outcome State Fault Refusal :=
  run 0xD5 (.zpx zp) opCmp s

/-- 0xCD CMP ABS (R196). -/
def execCmpAbs (addr : Word) (s : State) : Host.Outcome State Fault Refusal :=
  run 0xCD (.abs addr) opCmp s

/-- 0xDD CMP ABX (R196). -/
def execCmpAbx (addr : Word) (s : State) : Host.Outcome State Fault Refusal :=
  run 0xDD (.abx addr) opCmp s

/-- 0xD9 CMP ABY (R196). -/
def execCmpAby (addr : Word) (s : State) : Host.Outcome State Fault Refusal :=
  run 0xD9 (.aby addr) opCmp s

/-- 0xC1 CMP IZX (R196). -/
def execCmpIzx (zp : Byte) (s : State) : Host.Outcome State Fault Refusal :=
  run 0xC1 (.izx zp) opCmp s

/-- 0xD1 CMP IZY (R196). -/
def execCmpIzy (zp : Byte) (s : State) : Host.Outcome State Fault Refusal :=
  run 0xD1 (.izy zp) opCmp s

/-- CPX: compare X with M; returns 0 (R197). -/
def opCpx : Operation := fun o s =>
  let r := s.fetchOperand o
  (r.2.compare r.2.x r.1, false)

/-- 0xE0 CPX IMM (R197). -/
def execCpxImm (imm : Byte) (s : State) : Host.Outcome State Fault Refusal :=
  run 0xE0 (.imm imm) opCpx s

/-- 0xE4 CPX ZP0 (R197). -/
def execCpxZp0 (zp : Byte) (s : State) : Host.Outcome State Fault Refusal :=
  run 0xE4 (.zp0 zp) opCpx s

/-- 0xEC CPX ABS (R197). -/
def execCpxAbs (addr : Word) (s : State) : Host.Outcome State Fault Refusal :=
  run 0xEC (.abs addr) opCpx s

/-- CPY: compare Y with M; returns 0 (R198). -/
def opCpy : Operation := fun o s =>
  let r := s.fetchOperand o
  (r.2.compare r.2.y r.1, false)

/-- 0xC0 CPY IMM (R198). -/
def execCpyImm (imm : Byte) (s : State) : Host.Outcome State Fault Refusal :=
  run 0xC0 (.imm imm) opCpy s

/-- 0xC4 CPY ZP0 (R198). -/
def execCpyZp0 (zp : Byte) (s : State) : Host.Outcome State Fault Refusal :=
  run 0xC4 (.zp0 zp) opCpy s

/-- 0xCC CPY ABS (R198). -/
def execCpyAbs (addr : Word) (s : State) : Host.Outcome State Fault Refusal :=
  run 0xCC (.abs addr) opCpy s

/-! ## Increment and decrement -/

/-- INC: `M <- fetch(); r <- M +8 1; MemWrite(addr_abs, 1, r); ZN(r)`; returns 0 (R199). -/
def opInc : Operation := fun o s =>
  let r := s.fetchOperand o
  ((r.2.memWrite r.2.addrAbs (r.1 + 1)).setZN (r.1 + 1), false)

/-- 0xE6 INC ZP0 (R199). -/
def execIncZp0 (zp : Byte) (s : State) : Host.Outcome State Fault Refusal :=
  run 0xE6 (.zp0 zp) opInc s

/-- 0xF6 INC ZPX (R199). -/
def execIncZpx (zp : Byte) (s : State) : Host.Outcome State Fault Refusal :=
  run 0xF6 (.zpx zp) opInc s

/-- 0xEE INC ABS (R199). -/
def execIncAbs (addr : Word) (s : State) : Host.Outcome State Fault Refusal :=
  run 0xEE (.abs addr) opInc s

/-- 0xFE INC ABX (R199). -/
def execIncAbx (addr : Word) (s : State) : Host.Outcome State Fault Refusal :=
  run 0xFE (.abx addr) opInc s

/-- DEC: `M <- fetch(); r <- M -8 1; MemWrite(addr_abs, 1, r); ZN(r)`; returns 0 (R200). -/
def opDec : Operation := fun o s =>
  let r := s.fetchOperand o
  ((r.2.memWrite r.2.addrAbs (r.1 - 1)).setZN (r.1 - 1), false)

/-- 0xC6 DEC ZP0 (R200). -/
def execDecZp0 (zp : Byte) (s : State) : Host.Outcome State Fault Refusal :=
  run 0xC6 (.zp0 zp) opDec s

/-- 0xD6 DEC ZPX (R200). -/
def execDecZpx (zp : Byte) (s : State) : Host.Outcome State Fault Refusal :=
  run 0xD6 (.zpx zp) opDec s

/-- 0xCE DEC ABS (R200). -/
def execDecAbs (addr : Word) (s : State) : Host.Outcome State Fault Refusal :=
  run 0xCE (.abs addr) opDec s

/-- 0xDE DEC ABX (R200). -/
def execDecAbx (addr : Word) (s : State) : Host.Outcome State Fault Refusal :=
  run 0xDE (.abx addr) opDec s

/-- INX: `X <- X +8 1; ZN(X)`; returns 0 (R201). -/
def opInx : Operation := fun _ s => (State.setZN { s with x := s.x + 1 } (s.x + 1), false)

/-- 0xE8 INX IMP (R201). -/
def execInx (s : State) : Host.Outcome State Fault Refusal := run 0xE8 .imp opInx s

/-- INY: `Y <- Y +8 1; ZN(Y)`; returns 0 (R202). -/
def opIny : Operation := fun _ s => (State.setZN { s with y := s.y + 1 } (s.y + 1), false)

/-- 0xC8 INY IMP (R202). -/
def execIny (s : State) : Host.Outcome State Fault Refusal := run 0xC8 .imp opIny s

/-- DEX: `X <- X -8 1; ZN(X)`; returns 0 (R203). -/
def opDex : Operation := fun _ s => (State.setZN { s with x := s.x - 1 } (s.x - 1), false)

/-- 0xCA DEX IMP (R203). -/
def execDex (s : State) : Host.Outcome State Fault Refusal := run 0xCA .imp opDex s

/-- DEY: `Y <- Y -8 1; ZN(Y)`; returns 0 (R204). -/
def opDey : Operation := fun _ s => (State.setZN { s with y := s.y - 1 } (s.y - 1), false)

/-- 0x88 DEY IMP (R204). -/
def execDey (s : State) : Host.Outcome State Fault Refusal := run 0x88 .imp opDey s

end Sys2Proof.Machine
end

