-- ==== Sys2Proof/Machine/Control.lean ====
section
/-! DEFINITION. Branches, jumps and subroutines (spec 44_control_flow.md R230-R241). -/

namespace Sys2Proof.Machine

/-- The common branch rule (R230): when the condition holds, one cycle more, and one more again when the
target lies on another page than the next instruction; returns 0. -/
def State.branch (s : State) (cond : Bool) : State :=
  if cond then
    let target := s.pc + s.addrRel
    { s with
      cycles := s.cycles + 1 + bit (decide (hi8 target ≠ hi8 s.pc)), addrAbs := target, pc := target }
  else s

/-- BCC: `branch(P.C = 0)` (R231). -/
def opBcc : Operation := fun _ s => (s.branch (!s.flag .c), false)

/-- 0x90 BCC REL (R231). -/
def execBcc (rel : Byte) (s : State) : Host.Outcome State Fault Refusal :=
  run 0x90 (.rel rel) opBcc s

/-- BCS: `branch(P.C = 1)` (R232). -/
def opBcs : Operation := fun _ s => (s.branch (s.flag .c), false)

/-- 0xB0 BCS REL (R232). -/
def execBcs (rel : Byte) (s : State) : Host.Outcome State Fault Refusal :=
  run 0xB0 (.rel rel) opBcs s

/-- BEQ: `branch(P.Z = 1)` (R233). -/
def opBeq : Operation := fun _ s => (s.branch (s.flag .z), false)

/-- 0xF0 BEQ REL (R233). -/
def execBeq (rel : Byte) (s : State) : Host.Outcome State Fault Refusal :=
  run 0xF0 (.rel rel) opBeq s

/-- BMI: `branch(P.N = 1)` (R234). -/
def opBmi : Operation := fun _ s => (s.branch (s.flag .n), false)

/-- 0x30 BMI REL (R234). -/
def execBmi (rel : Byte) (s : State) : Host.Outcome State Fault Refusal :=
  run 0x30 (.rel rel) opBmi s

/-- BNE: `branch(P.Z = 0)` (R235). -/
def opBne : Operation := fun _ s => (s.branch (!s.flag .z), false)

/-- 0xD0 BNE REL (R235). -/
def execBne (rel : Byte) (s : State) : Host.Outcome State Fault Refusal :=
  run 0xD0 (.rel rel) opBne s

/-- BPL: `branch(P.N = 0)` (R236). -/
def opBpl : Operation := fun _ s => (s.branch (!s.flag .n), false)

/-- 0x10 BPL REL (R236). -/
def execBpl (rel : Byte) (s : State) : Host.Outcome State Fault Refusal :=
  run 0x10 (.rel rel) opBpl s

/-- BVC: `branch(P.V = 0)` (R237). -/
def opBvc : Operation := fun _ s => (s.branch (!s.flag .v), false)

/-- 0x50 BVC REL (R237). -/
def execBvc (rel : Byte) (s : State) : Host.Outcome State Fault Refusal :=
  run 0x50 (.rel rel) opBvc s

/-- BVS: `branch(P.V = 1)` (R238). -/
def opBvs : Operation := fun _ s => (s.branch (s.flag .v), false)

/-- 0x70 BVS REL (R238). -/
def execBvs (rel : Byte) (s : State) : Host.Outcome State Fault Refusal :=
  run 0x70 (.rel rel) opBvs s

/-- JMP: `PC <- addr_abs`; returns 0 (R239). -/
def opJmp : Operation := fun _ s => ({ s with pc := s.addrAbs }, false)

/-- 0x4C JMP ABS (R239). -/
def execJmpAbs (addr : Word) (s : State) : Host.Outcome State Fault Refusal :=
  run 0x4C (.abs addr) opJmp s

/-- 0x6C JMP IND (R239). -/
def execJmpInd (ptr : Word) (s : State) : Host.Outcome State Fault Refusal :=
  run 0x6C (.ind ptr) opJmp s

/-- JSR: push the address of its own last byte, high byte first, and `PC <- addr_abs`; returns 0
(R240). -/
def opJsr : Operation := fun _ s =>
  let s1 := { s with pc := s.pc - 1 }
  let s2 := s1.pushWord s1.pc
  ({ s2 with pc := s2.addrAbs }, false)

/-- 0x20 JSR ABS (R240). -/
def execJsr (addr : Word) (s : State) : Host.Outcome State Fault Refusal :=
  run 0x20 (.abs addr) opJsr s

/-- RTS: pull the low then the high byte; PC is one past that address; returns 0 (R241). -/
def opRts : Operation := fun _ s =>
  let w := s.pullWord
  ({ w.2 with pc := w.1 + 1 }, false)

/-- 0x60 RTS IMP (R241). -/
def execRts (s : State) : Host.Outcome State Fault Refusal := run 0x60 .imp opRts s

end Sys2Proof.Machine
end

