-- ==== Sys2Proof/Machine/LoadStore.lean ====
section
/-! DEFINITION. Loads, stores and register transfers (spec 41_load_store_transfer.md R170-R181). -/

namespace Sys2Proof.Machine

/-! ## Loads -/

/-- LDA: `M <- fetch(); A <- M; ZN(A)`; returns 1 (R170). -/
def opLda : Operation := fun o s =>
  let r := s.fetchOperand o
  (State.setZN { r.2 with a := r.1 } r.1, true)

/-- 0xA9 LDA IMM (R170). -/
def execLdaImm (imm : Byte) (s : State) : Host.Outcome State Fault Refusal :=
  run 0xA9 (.imm imm) opLda s

/-- 0xA5 LDA ZP0 (R170). -/
def execLdaZp0 (zp : Byte) (s : State) : Host.Outcome State Fault Refusal :=
  run 0xA5 (.zp0 zp) opLda s

/-- 0xB5 LDA ZPX (R170). -/
def execLdaZpx (zp : Byte) (s : State) : Host.Outcome State Fault Refusal :=
  run 0xB5 (.zpx zp) opLda s

/-- 0xAD LDA ABS (R170). -/
def execLdaAbs (addr : Word) (s : State) : Host.Outcome State Fault Refusal :=
  run 0xAD (.abs addr) opLda s

/-- 0xBD LDA ABX (R170). -/
def execLdaAbx (addr : Word) (s : State) : Host.Outcome State Fault Refusal :=
  run 0xBD (.abx addr) opLda s

/-- 0xB9 LDA ABY (R170). -/
def execLdaAby (addr : Word) (s : State) : Host.Outcome State Fault Refusal :=
  run 0xB9 (.aby addr) opLda s

/-- 0xA1 LDA IZX (R170). -/
def execLdaIzx (zp : Byte) (s : State) : Host.Outcome State Fault Refusal :=
  run 0xA1 (.izx zp) opLda s

/-- 0xB1 LDA IZY (R170). -/
def execLdaIzy (zp : Byte) (s : State) : Host.Outcome State Fault Refusal :=
  run 0xB1 (.izy zp) opLda s

/-- LDX: `M <- fetch(); X <- M; ZN(X)`; returns 1 (R171). -/
def opLdx : Operation := fun o s =>
  let r := s.fetchOperand o
  (State.setZN { r.2 with x := r.1 } r.1, true)

/-- 0xA2 LDX IMM (R171). -/
def execLdxImm (imm : Byte) (s : State) : Host.Outcome State Fault Refusal :=
  run 0xA2 (.imm imm) opLdx s

/-- 0xA6 LDX ZP0 (R171). -/
def execLdxZp0 (zp : Byte) (s : State) : Host.Outcome State Fault Refusal :=
  run 0xA6 (.zp0 zp) opLdx s

/-- 0xB6 LDX ZPY (R171). -/
def execLdxZpy (zp : Byte) (s : State) : Host.Outcome State Fault Refusal :=
  run 0xB6 (.zpy zp) opLdx s

/-- 0xAE LDX ABS (R171). -/
def execLdxAbs (addr : Word) (s : State) : Host.Outcome State Fault Refusal :=
  run 0xAE (.abs addr) opLdx s

/-- 0xBE LDX ABY (R171). -/
def execLdxAby (addr : Word) (s : State) : Host.Outcome State Fault Refusal :=
  run 0xBE (.aby addr) opLdx s

/-- LDY: `M <- fetch(); Y <- M; ZN(Y)`; returns 1 (R172). -/
def opLdy : Operation := fun o s =>
  let r := s.fetchOperand o
  (State.setZN { r.2 with y := r.1 } r.1, true)

/-- 0xA0 LDY IMM (R172). -/
def execLdyImm (imm : Byte) (s : State) : Host.Outcome State Fault Refusal :=
  run 0xA0 (.imm imm) opLdy s

/-- 0xA4 LDY ZP0 (R172). -/
def execLdyZp0 (zp : Byte) (s : State) : Host.Outcome State Fault Refusal :=
  run 0xA4 (.zp0 zp) opLdy s

/-- 0xB4 LDY ZPX (R172). -/
def execLdyZpx (zp : Byte) (s : State) : Host.Outcome State Fault Refusal :=
  run 0xB4 (.zpx zp) opLdy s

/-- 0xAC LDY ABS (R172). -/
def execLdyAbs (addr : Word) (s : State) : Host.Outcome State Fault Refusal :=
  run 0xAC (.abs addr) opLdy s

/-- 0xBC LDY ABX (R172). -/
def execLdyAbx (addr : Word) (s : State) : Host.Outcome State Fault Refusal :=
  run 0xBC (.abx addr) opLdy s

/-! ## Stores: no read of the effective address, no flag -/

/-- STA: `MemWrite(addr_abs, 1, A)`; returns 0 (R173). -/
def opSta : Operation := fun _ s => (s.memWrite s.addrAbs s.a, false)

/-- 0x85 STA ZP0 (R173). -/
def execStaZp0 (zp : Byte) (s : State) : Host.Outcome State Fault Refusal :=
  run 0x85 (.zp0 zp) opSta s

/-- 0x95 STA ZPX (R173). -/
def execStaZpx (zp : Byte) (s : State) : Host.Outcome State Fault Refusal :=
  run 0x95 (.zpx zp) opSta s

/-- 0x8D STA ABS (R173). -/
def execStaAbs (addr : Word) (s : State) : Host.Outcome State Fault Refusal :=
  run 0x8D (.abs addr) opSta s

/-- 0x9D STA ABX (R173). -/
def execStaAbx (addr : Word) (s : State) : Host.Outcome State Fault Refusal :=
  run 0x9D (.abx addr) opSta s

/-- 0x99 STA ABY (R173). -/
def execStaAby (addr : Word) (s : State) : Host.Outcome State Fault Refusal :=
  run 0x99 (.aby addr) opSta s

/-- 0x81 STA IZX (R173). -/
def execStaIzx (zp : Byte) (s : State) : Host.Outcome State Fault Refusal :=
  run 0x81 (.izx zp) opSta s

/-- 0x91 STA IZY (R173). -/
def execStaIzy (zp : Byte) (s : State) : Host.Outcome State Fault Refusal :=
  run 0x91 (.izy zp) opSta s

/-- STX: `MemWrite(addr_abs, 1, X)`; returns 0 (R174). -/
def opStx : Operation := fun _ s => (s.memWrite s.addrAbs s.x, false)

/-- 0x86 STX ZP0 (R174). -/
def execStxZp0 (zp : Byte) (s : State) : Host.Outcome State Fault Refusal :=
  run 0x86 (.zp0 zp) opStx s

/-- 0x96 STX ZPY (R174). -/
def execStxZpy (zp : Byte) (s : State) : Host.Outcome State Fault Refusal :=
  run 0x96 (.zpy zp) opStx s

/-- 0x8E STX ABS (R174). -/
def execStxAbs (addr : Word) (s : State) : Host.Outcome State Fault Refusal :=
  run 0x8E (.abs addr) opStx s

/-- STY: `MemWrite(addr_abs, 1, Y)`; returns 0 (R175). -/
def opSty : Operation := fun _ s => (s.memWrite s.addrAbs s.y, false)

/-- 0x84 STY ZP0 (R175). -/
def execStyZp0 (zp : Byte) (s : State) : Host.Outcome State Fault Refusal :=
  run 0x84 (.zp0 zp) opSty s

/-- 0x94 STY ZPX (R175). -/
def execStyZpx (zp : Byte) (s : State) : Host.Outcome State Fault Refusal :=
  run 0x94 (.zpx zp) opSty s

/-- 0x8C STY ABS (R175). -/
def execStyAbs (addr : Word) (s : State) : Host.Outcome State Fault Refusal :=
  run 0x8C (.abs addr) opSty s

/-! ## Transfers -/

/-- TAX: `X <- A; ZN(X)`; returns 0 (R176). -/
def opTax : Operation := fun _ s => (State.setZN { s with x := s.a } s.a, false)

/-- 0xAA TAX IMP (R176). -/
def execTax (s : State) : Host.Outcome State Fault Refusal := run 0xAA .imp opTax s

/-- TAY: `Y <- A; ZN(Y)`; returns 0 (R177). -/
def opTay : Operation := fun _ s => (State.setZN { s with y := s.a } s.a, false)

/-- 0xA8 TAY IMP (R177). -/
def execTay (s : State) : Host.Outcome State Fault Refusal := run 0xA8 .imp opTay s

/-- TSX: `X <- S; ZN(X)`; returns 0 (R178). -/
def opTsx : Operation := fun _ s => (State.setZN { s with x := s.sp } s.sp, false)

/-- 0xBA TSX IMP (R178). -/
def execTsx (s : State) : Host.Outcome State Fault Refusal := run 0xBA .imp opTsx s

/-- TXA: `A <- X; ZN(A)`; returns 0 (R179). -/
def opTxa : Operation := fun _ s => (State.setZN { s with a := s.x } s.x, false)

/-- 0x8A TXA IMP (R179). -/
def execTxa (s : State) : Host.Outcome State Fault Refusal := run 0x8A .imp opTxa s

/-- TXS: `S <- X`, the only transfer that writes no flag; returns 0 (R180). -/
def opTxs : Operation := fun _ s => ({ s with sp := s.x }, false)

/-- 0x9A TXS IMP (R180). -/
def execTxs (s : State) : Host.Outcome State Fault Refusal := run 0x9A .imp opTxs s

/-- TYA: `A <- Y; ZN(A)`; returns 0 (R181). -/
def opTya : Operation := fun _ s => (State.setZN { s with a := s.y } s.y, false)

/-- 0x98 TYA IMP (R181). -/
def execTya (s : State) : Host.Outcome State Fault Refusal := run 0x98 .imp opTya s

end Sys2Proof.Machine
end

