-- ==== Sys2Proof/Machine/Shift.lean ====
section
/-! DEFINITION. Shifts and rotates (spec 43_shift_rotate.md R220-R224). -/

namespace Sys2Proof.Machine

/-- A shift or rotate: `M <- fetch()`, the new carry, `ZN(r)`, `writeback(r)`; returns 0 (R220). The old
carry is read before it is overwritten. -/
def shiftOp (f : Byte → Bool → Shifted) : Operation := fun o s =>
  let r := s.fetchOperand o
  let sh := f r.1 (r.2.flag .c)
  ((((r.2.setFlag .c sh.carry).setZN sh.result).writeBack o sh.result), false)

/-- ASL (R221). -/
def opAsl : Operation := shiftOp shiftAsl

/-- 0x06 ASL ZP0 (R221). -/
def execAslZp0 (zp : Byte) (s : State) : Host.Outcome State Fault Refusal :=
  run 0x06 (.zp0 zp) opAsl s

/-- 0x16 ASL ZPX (R221). -/
def execAslZpx (zp : Byte) (s : State) : Host.Outcome State Fault Refusal :=
  run 0x16 (.zpx zp) opAsl s

/-- 0x0E ASL ABS (R221). -/
def execAslAbs (addr : Word) (s : State) : Host.Outcome State Fault Refusal :=
  run 0x0E (.abs addr) opAsl s

/-- 0x1E ASL ABX (R221). -/
def execAslAbx (addr : Word) (s : State) : Host.Outcome State Fault Refusal :=
  run 0x1E (.abx addr) opAsl s

/-- 0x0A ASL IMP (R221). -/
def execAslImp (s : State) : Host.Outcome State Fault Refusal := run 0x0A .imp opAsl s

/-- LSR (R222). -/
def opLsr : Operation := shiftOp shiftLsr

/-- 0x46 LSR ZP0 (R222). -/
def execLsrZp0 (zp : Byte) (s : State) : Host.Outcome State Fault Refusal :=
  run 0x46 (.zp0 zp) opLsr s

/-- 0x56 LSR ZPX (R222). -/
def execLsrZpx (zp : Byte) (s : State) : Host.Outcome State Fault Refusal :=
  run 0x56 (.zpx zp) opLsr s

/-- 0x4E LSR ABS (R222). -/
def execLsrAbs (addr : Word) (s : State) : Host.Outcome State Fault Refusal :=
  run 0x4E (.abs addr) opLsr s

/-- 0x5E LSR ABX (R222). -/
def execLsrAbx (addr : Word) (s : State) : Host.Outcome State Fault Refusal :=
  run 0x5E (.abx addr) opLsr s

/-- 0x4A LSR IMP (R222). -/
def execLsrImp (s : State) : Host.Outcome State Fault Refusal := run 0x4A .imp opLsr s

/-- ROL (R223). -/
def opRol : Operation := shiftOp shiftRol

/-- 0x26 ROL ZP0 (R223). -/
def execRolZp0 (zp : Byte) (s : State) : Host.Outcome State Fault Refusal :=
  run 0x26 (.zp0 zp) opRol s

/-- 0x36 ROL ZPX (R223). -/
def execRolZpx (zp : Byte) (s : State) : Host.Outcome State Fault Refusal :=
  run 0x36 (.zpx zp) opRol s

/-- 0x2E ROL ABS (R223). -/
def execRolAbs (addr : Word) (s : State) : Host.Outcome State Fault Refusal :=
  run 0x2E (.abs addr) opRol s

/-- 0x3E ROL ABX (R223). -/
def execRolAbx (addr : Word) (s : State) : Host.Outcome State Fault Refusal :=
  run 0x3E (.abx addr) opRol s

/-- 0x2A ROL IMP (R223). -/
def execRolImp (s : State) : Host.Outcome State Fault Refusal := run 0x2A .imp opRol s

/-- ROR (R224). -/
def opRor : Operation := shiftOp shiftRor

/-- 0x66 ROR ZP0 (R224). -/
def execRorZp0 (zp : Byte) (s : State) : Host.Outcome State Fault Refusal :=
  run 0x66 (.zp0 zp) opRor s

/-- 0x76 ROR ZPX (R224). -/
def execRorZpx (zp : Byte) (s : State) : Host.Outcome State Fault Refusal :=
  run 0x76 (.zpx zp) opRor s

/-- 0x6E ROR ABS (R224). -/
def execRorAbs (addr : Word) (s : State) : Host.Outcome State Fault Refusal :=
  run 0x6E (.abs addr) opRor s

/-- 0x7E ROR ABX (R224). -/
def execRorAbx (addr : Word) (s : State) : Host.Outcome State Fault Refusal :=
  run 0x7E (.abx addr) opRor s

/-- 0x6A ROR IMP (R224). -/
def execRorImp (s : State) : Host.Outcome State Fault Refusal := run 0x6A .imp opRor s

end Sys2Proof.Machine
end

