-- ==== Sys2Proof/Machine/System.lean ====
section
/-! DEFINITION. Stack, flag, system and no-operation instructions and the undocumented bytes
(spec 45_stack_flags_system.md R250-R265). -/

namespace Sys2Proof.Machine

/-! ## Stack operations -/

/-- PHA: `Push(A)`; returns 0 (R250). -/
def opPha : Operation := fun _ s => (s.push s.a, false)

/-- 0x48 PHA IMP (R250). -/
def execPha (s : State) : Host.Outcome State Fault Refusal := run 0x48 .imp opPha s

/-- PHP: `Push(P | 0x30)`, the live P unchanged; returns 0 (R251). -/
def opPhp : Operation := fun _ s => (s.push (s.p ||| 0x30), false)

/-- 0x08 PHP IMP (R251). -/
def execPhp (s : State) : Host.Outcome State Fault Refusal := run 0x08 .imp opPhp s

/-- PLA: `A <- Pull(); ZN(A)`; returns 0 (R252). -/
def opPla : Operation := fun _ s =>
  let r := s.pull
  (State.setZN { r.2 with a := r.1 } r.1, false)

/-- 0x68 PLA IMP (R252). -/
def execPla (s : State) : Host.Outcome State Fault Refusal := run 0x68 .imp opPla s

/-- PLP: `P <- Pull() | 0x20`; returns 0 (R253). -/
def opPlp : Operation := fun _ s =>
  let r := s.pull
  ({ r.2 with p := r.1 ||| 0x20 }, false)

/-- 0x28 PLP IMP (R253). -/
def execPlp (s : State) : Host.Outcome State Fault Refusal := run 0x28 .imp opPlp s

/-! ## Flag instructions -/

/-- CLC: `P.C <- 0`; returns 0 (R254). -/
def opClc : Operation := fun _ s => (s.setFlag .c false, false)

/-- 0x18 CLC IMP (R254). -/
def execClc (s : State) : Host.Outcome State Fault Refusal := run 0x18 .imp opClc s

/-- CLD: `P.D <- 0`; returns 0 (R255). -/
def opCld : Operation := fun _ s => (s.setFlag .d false, false)

/-- 0xD8 CLD IMP (R255). -/
def execCld (s : State) : Host.Outcome State Fault Refusal := run 0xD8 .imp opCld s

/-- CLI: `P.I <- 0`; returns 0 (R256). -/
def opCli : Operation := fun _ s => (s.setFlag .i false, false)

/-- 0x58 CLI IMP (R256). -/
def execCli (s : State) : Host.Outcome State Fault Refusal := run 0x58 .imp opCli s

/-- CLV: `P.V <- 0`; returns 0 (R257). -/
def opClv : Operation := fun _ s => (s.setFlag .v false, false)

/-- 0xB8 CLV IMP (R257). -/
def execClv (s : State) : Host.Outcome State Fault Refusal := run 0xB8 .imp opClv s

/-- SEC: `P.C <- 1`; returns 0 (R258). -/
def opSec : Operation := fun _ s => (s.setFlag .c true, false)

/-- 0x38 SEC IMP (R258). -/
def execSec (s : State) : Host.Outcome State Fault Refusal := run 0x38 .imp opSec s

/-- SED: `P.D <- 1`; returns 0 (R259). -/
def opSed : Operation := fun _ s => (s.setFlag .d true, false)

/-- 0xF8 SED IMP (R259). -/
def execSed (s : State) : Host.Outcome State Fault Refusal := run 0xF8 .imp opSed s

/-- SEI: `P.I <- 1`; returns 0 (R260). -/
def opSei : Operation := fun _ s => (s.setFlag .i true, false)

/-- 0x78 SEI IMP (R260). -/
def execSei (s : State) : Host.Outcome State Fault Refusal := run 0x78 .imp opSei s

/-! ## No-operation and the undocumented bytes -/

/-- The six "extra-cycle NOPs", whose operation returns 1 (R262, R265). -/
def extraCycleBytes : List Byte := [0x1C, 0x3C, 0x5C, 0x7C, 0xDC, 0xFC]

/-- What NOP and the illegal-opcode handler do: nothing; they return 1 for the six bytes (R262, R265). -/
def noOperation (op : Byte) : Operation := fun _ s => (s, extraCycleBytes.contains op)

/-- NOP (R262). -/
def opNop : Operation := noOperation 0xEA

/-- 0xEA NOP IMP (R262). -/
def execNop (s : State) : Host.Outcome State Fault Refusal := run 0xEA .imp opNop s

/-- The illegal-opcode handler of every "???" byte, Implied mode, with that byte's base cycles
(30_encoding.md R104, R265). -/
def execXxx (op : Byte) (s : State) : Host.Outcome State Fault Refusal := run op .imp (noOperation op) s

/-! ## BRK and RTI -/

/-- BRK (R263): step over one byte, set I, and enter the handler at the IRQ vector with B = 1 in the pushed
status only; returns 0. -/
def opBrk : Operation := fun _ s =>
  let s1 := { s with pc := s.pc + 1 }
  let p := putFlag s1.p .i true
  (s1.enterHandler (putFlag p .b true) (putFlag p .b false) irqVector, false)

/-- 0x00 BRK, in the machine's BRK_MODE (R263, 30_encoding.md R107). -/
def execBrk (s : State) : Host.Outcome State Fault Refusal := run 0x00 (brkOperand s.params.brkMode) opBrk s

/-- RTI: the return from a handler; returns 0 (R264). -/
def opRti : Operation := fun _ s => (s.returnFromHandler, false)

/-- 0x40 RTI IMP (R264). -/
def execRti (s : State) : Host.Outcome State Fault Refusal := run 0x40 .imp opRti s

end Sys2Proof.Machine
end

