-- ==== Sys2Proof/Machine/Fetch.lean ====
section
/-! DEFINITION. Fetching an instruction through the bus (spec 40_execution_and_addressing.md R131, 20_memory.md
R82), and laying an instruction where the next fetch reads it. -/

namespace Sys2Proof.Machine

/-- The start of clock() in the fetching state (R131): `opcode <- MemRead(PC, 1); PC <- PC + 1; P.U <- 1`. -/
def State.fetchOpcode (s : State) : Byte × State :=
  let r := s.readPc
  (r.1, State.setFlag { r.2 with opcode := r.1 } .u true)

/-- Fetch an instruction under a BRK_MODE: the opcode, then the operand bytes its form asks for, each read
once through the bus in address order, PC moving past them (R131, R140-R152). The byte after BRK is
consumed by Immediate mode but not read (R141, 45_stack_flags_system.md R263). -/
def fetchWith (m : BrkMode) (s : State) : Instr × State :=
  let r := s.fetchOpcode
  match formOf r.1 with
  | .whole i => (i, r.2)
  | .byte f =>
    let b := r.2.readPc
    (f b.1, b.2)
  | .addr f =>
    let lo := r.2.readPc
    let hi := lo.2.readPc
    (f (word hi.1 lo.1), hi.2)
  | .brk =>
    match m with
    | .imm => (.brk, { r.2 with pc := r.2.pc + 1 })
    | .imp => (.brk, r.2)

/-- Fetch an instruction, in the machine's BRK_MODE (30_encoding.md R107). -/
def fetch (s : State) : Instr × State := fetchWith s.params.brkMode s

/-- Put a byte where a read of the address finds it: into the first device that handles the read. -/
def Bus.place : List Device → Word → Byte → List Device
  | [], _, _ => []
  | d :: ds, a, v => if d.handlesRead a then d.write a v :: ds else d :: Bus.place ds a v

/-- Put bytes at consecutive addresses, modulo 65536. -/
def Bus.placeAll (ds : List Device) (a : Word) : List Byte → List Device
  | [] => ds
  | v :: vs => Bus.placeAll (Bus.place ds a v) (a + 1) vs

/-- Make the next step fetch from the given bytes: they stand at PC, the core is in the fetching state, a
reset has run, and the host's next command is Clock. -/
def State.placeAtFetch (s : State) (bs : List Byte) : State :=
  { s with
    devices := Bus.placeAll s.devices s.pc bs, cycles := 0, resetDone := true,
    hostCommands := .clock :: s.hostCommands }

end Sys2Proof.Machine
end

