-- ==== Sys2Proof/Machine/Interrupts.lean ====
section
/-! DEFINITION. The interrupt_handler's host commands irq(), nmi() and reset(), the construction of a
machine, and the host's writes and observations between commands (spec 60_exceptions.md,
70_reset_and_hazards.md, 10_state.md R43). -/

namespace Sys2Proof.Machine

/-- The status irq() and nmi() push and leave: `P.B <- 0; P.U <- 1; P.I <- 1` (60_exceptions.md R283). -/
def interruptStatus (p : Byte) : Byte := putFlag (putFlag (putFlag p .b false) .u true) .i true

/-- irq() (60_exceptions.md R283): nothing when I is set; otherwise enter the handler at 0xFFFE with 7
cycles. An irq() while I is set is dropped, not latched (R298). -/
def State.irq (s : State) : State :=
  if s.flag .i then s
  else { s.enterHandler (interruptStatus s.p) (interruptStatus s.p) irqVector with cycles := 7 }

/-- nmi() (60_exceptions.md R284): as irq(), whatever I is, through 0xFFFA, with 8 cycles. -/
def State.nmi (s : State) : State :=
  { s.enterHandler (interruptStatus s.p) (interruptStatus s.p) nmiVector with cycles := 8 }

/-- reset() (70_reset_and_hazards.md R321): two vector reads, no write; memory and the parameters are
untouched. -/
def State.resetCommand (s : State) : State :=
  let s1 := { s with a := 0x00, x := 0x00, y := 0x00, sp := 0xFD, p := putFlag 0x00 .u true }
  let r := s1.readVec resetVector
  { r.2 with
    pc := r.1, opcode := 0x00, fetched := 0x00, temp := 0x0000, addrAbs := 0x0000, addrRel := 0x0000,
    totalCycles := 0, cycles := 8, resetDone := true }

/-- The state right after construction, before the first reset() (70_reset_and_hazards.md R320): registers
zero, P zero (U included), the fields the spec calls unspecified at free values (assumption 5), the parameters
and devices it is given. Cycles remain, because "the core counts as executing, not fetching". -/
def State.constructed (params : Params) (devices : List Device) : State :=
  { a := 0x00, x := 0x00, y := 0x00, sp := 0x00, pc := 0x0000, p := 0x00,
    cycles := Config.constructionCycles + 1, totalCycles := Config.constructionTotalCycles,
    opcode := Config.constructionByte 0, fetched := Config.constructionByte 1,
    temp := Config.constructionWord 0, addrAbs := Config.constructionWord 1,
    addrRel := Config.constructionWord 2,
    resetDone := false, devices := devices, params := params, hostCommands := [] }

/-- Configure (70_reset_and_hazards.md R331): build a machine with any BRK_MODE and BASE_CYCLES (00_scope.md
R7) from a well-formed device list, refuse any other list (20_memory.md R72, 60_exceptions.md R282). -/
def construct (params : Params) (devices : List Device) : Host.Outcome State Fault Refusal :=
  if Bus.wellFormed devices then .next (State.constructed params devices)
  else .refused .malformedConfiguration

/-- The host's writes into devices between commands (20_memory.md R83, 70_reset_and_hazards.md R325): each
names the device by its place in registration order, the address and the byte. They go to the device
itself, not through the bus, so its direction flags play no part (95_test_vectors.md program P6). -/
def State.bootstrap (s : State) : List (Nat × Word × Byte) → State
  | [] => s
  | (k, a, v) :: ws => State.bootstrap { s with devices := s.devices.modify k (·.write a v) } ws

/-- `complete()`: the core is in the fetching state (10_state.md R38). -/
def State.complete (s : State) : Bool := s.cycles == 0

/-- What the host observes (10_state.md R43). -/
structure Observation where
  a           : Byte
  x           : Byte
  y           : Byte
  sp          : Byte
  pc          : Word
  p           : Byte
  complete    : Bool
  totalCycles : Nat
  deriving DecidableEq, Repr

/-- The host's reading of a state (10_state.md R43); memory it reads by `State.peek`. -/
def State.observe (s : State) : Observation :=
  { a := s.a, x := s.x, y := s.y, sp := s.sp, pc := s.pc, p := s.p,
    complete := s.complete, totalCycles := s.totalCycles }

/-- A change notification, carrying the new value (40_execution_and_addressing.md R136). -/
inductive Notification where
  | pc (v : Word)
  | p  (v : Byte)
  | sp (v : Byte)
  | a  (v : Byte)
  | x  (v : Byte)
  | y  (v : Byte)
  deriving DecidableEq, Repr

/-- The notifications of a clock() from its state before and after (40_execution_and_addressing.md R136): one
for each of PC, P, S, A, X, Y that differs, in that order. A tick that only counts down changes none of
them, so it delivers none. -/
def notifications (before after : State) : List Notification :=
  (if after.pc = before.pc then [] else [.pc after.pc])
    ++ (if after.p = before.p then [] else [.p after.p])
    ++ (if after.sp = before.sp then [] else [.sp after.sp])
    ++ (if after.a = before.a then [] else [.a after.a])
    ++ (if after.x = before.x then [] else [.x after.x])
    ++ (if after.y = before.y then [] else [.y after.y])

end Sys2Proof.Machine
end

