-- ==== Sys2Proof/Machine/Clock.lean ====
section
/-! DEFINITION. The host commands (spec 40_execution_and_addressing.md R130-R132, 70_reset_and_hazards.md R323). -/

namespace Sys2Proof.Machine

/-- `cycles <- cycles - 1` in the clock that makes `total_cycles` what is given (R131). From 0 the spec states
no result, so it is a free value (DESIGN CHOICE, assumption 14): only the instruction of an opcode byte whose
BASE_CYCLES is 0 comes there. -/
def countDown (cycles total : Nat) : Nat := if cycles = 0 then Config.cyclesBelowZero total else cycles - 1

/-- The end of every clock() (R131): `total_cycles <- total_cycles + 1; cycles <- cycles - 1`. -/
def State.tick (s : State) : State :=
  { s with totalCycles := s.totalCycles + 1, cycles := countDown s.cycles (s.totalCycles + 1) }

/-- clock() "advances exactly one cycle" (R131): in the fetching state it fetches an instruction and runs its
whole effect, then writes U; in the executing state it only counts down. -/
def clock (s : State) : Host.Outcome State Fault Refusal :=
  if s.cycles = 0 then
    let f := fetch s
    match exec f.1 f.2 with
    | .next t => .next (t.setFlag .u true).tick
    | .fault r => .fault r
    | .refused r => .refused r
  else .next s.tick

/-- One host command (R130). Before the first reset only Reset is accepted (70_reset_and_hazards.md R323). -/
def command (c : HostCommand) (s : State) : Host.Outcome State Fault Refusal :=
  match c with
  | .reset => .next s.resetCommand
  | .clock => if s.resetDone then clock s else .refused .beforeFirstReset
  | .irq => if s.resetDone then .next s.irq else .refused .beforeFirstReset
  | .nmi => if s.resetDone then .next s.nmi else .refused .beforeFirstReset

/-- The host's next command and the state once it is taken from the list; an empty list means Clock
(assumption 2). -/
def State.nextCommand (s : State) : HostCommand × State :=
  match s.hostCommands with
  | [] => (.clock, s)
  | c :: cs => (c, { s with hostCommands := cs })

end Sys2Proof.Machine
end

