-- ==== Sys2Proof/Safety.lean ====
section
/-! DEFINITION. What counts as a good state and a safe run, in the terms the statements use. -/

namespace Sys2Proof.Machine

/-- The device is plain memory: a read of it changes nothing (spec 20_memory.md R71, R77). -/
def Device.plain (d : Device) : Bool :=
  match d.store with
  | .memory _ => true
  | .other _ _ => false

/-- Every device of the machine is plain memory, as in the default configuration (20_memory.md R72). -/
def State.plain (s : State) : Bool := s.devices.all Device.plain

/-- A device's backing store, where it is plain memory, has the canonical form. -/
def Device.canonical (d : Device) : Bool :=
  match d.store with
  | .memory cells => Memory.wf cells
  | .other _ _ => true

/-- Every backing store has the canonical form. -/
def State.canonical (s : State) : Bool := s.devices.all Device.canonical

/-- The configuration of a device, which never changes (10_state.md R41): its range and its flags. -/
def Device.config (d : Device) : Word × Word × Bool × Bool := (d.lower, d.upper, d.readable, d.writable)

/-- The configuration of the bus, in registration order (10_state.md R41). -/
def State.busConfig (s : State) : List (Word × Word × Bool × Bool) := s.devices.map Device.config

/-- The machine invariant: the bus is well formed (20_memory.md R72), every backing store canonical, and
after the first reset U is 1 (10_state.md R31) and, with the default cycle table from which 10_state.md R36
derives the bound, at most 8 cycles remain. -/
abbrev State.Inv (s : State) : Prop :=
  Bus.wellFormed s.devices = true ∧ s.canonical = true
    ∧ (s.resetDone = true → s.flag .u = true ∧ (s.params = defaultParams → s.cycles ≤ 8))

/-! ## The vocabulary of the statements -/

/-- The 8-bit registers an instruction may name (10_state.md R20). -/
inductive Reg where
  | a | x | y | sp
  deriving DecidableEq, Repr

/-- The value of a register. -/
def State.reg (s : State) : Reg → Byte
  | .a => s.a
  | .x => s.x
  | .y => s.y
  | .sp => s.sp

/-- Every byte of memory reads after as it read before, but at the addresses listed. -/
def BytesKept (stored : List Word) (s t : State) : Prop := ∀ a, a ∉ stored → t.peek a = s.peek a

/-- The frame of an instruction: every register but those listed, every flag but those listed (P is its
eight flags), the clock count, the current opcode, the reset marker, the host's commands, the parameters and
the bus configuration are as before; and where the devices are plain memories in canonical form, so is every
byte but at the addresses listed. The transient fields of 10_state.md R39 are no part of it: no value of theirs
is carried to the next instruction. -/
def Frame (regs : List Reg) (flags : List Flag) (stored : List Word) (s t : State) : Prop :=
  (∀ r, r ∉ regs → t.reg r = s.reg r) ∧ (∀ f, f ∉ flags → t.flag f = s.flag f)
    ∧ t.totalCycles = s.totalCycles ∧ t.opcode = s.opcode ∧ t.resetDone = s.resetDone
    ∧ t.hostCommands = s.hostCommands ∧ t.params = s.params ∧ t.busConfig = s.busConfig
    ∧ (s.plain = true → s.canonical = true → BytesKept stored s t)

/-- Z and N after a result byte, `ZN(v)` (00_scope.md R9). -/
def ZNFrom (v : Byte) (t : State) : Prop := (t.flag .z = true ↔ v = 0) ∧ t.flag .n = v.msb

/-- The devices after an operand's routine and fetch(): every read they make, made. -/
def devicesAfterFetch (o : Operand) (s : State) : List Device :=
  ((o.resolve s).1.fetchOperand o).2.devices

/-- The devices after an operand's routine alone: its own reads made, none of the effective address. -/
def devicesAfterResolve (o : Operand) (s : State) : List Device := (o.resolve s).1.devices

/-- The cycle count an instruction leaves: its base in this machine's BASE_CYCLES, and one more when both its
operand's routine and its operation (`returns`) ask for it (40_execution_and_addressing.md R131, R134). -/
def cyclesWith (i : Instr) (returns : Bool) (s : State) : Nat :=
  s.baseCycles i.opcode + if i.operand.crosses s && returns then 1 else 0

/-- The documented cells of a mnemonic in the opcode map: opcode byte, mode and base cycles (at the default
parameters) of each of its forms, all of them and no other (30_encoding.md R102). -/
def HasForms (mn : Mnemonic) (forms : List (Byte × Mode × Nat)) : Prop :=
  (∀ i : Instr, i.mnemonic = mn → (i.opcode, i.operand.mode, baseCycles i.opcode) ∈ forms)
    ∧ ∀ f ∈ forms, ∃ i : Instr, i.mnemonic = mn ∧ (i.opcode, i.operand.mode, baseCycles i.opcode) = f

/-- 30_encoding.md R102: the base cycles of the 105 undocumented bytes, with the bytes that take each count. -/
def undocumentedCycles : List (Nat × List Byte) :=
  [(2, [0x02, 0x0B, 0x12, 0x1A, 0x22, 0x2B, 0x32, 0x3A, 0x42, 0x4B, 0x52, 0x5A, 0x62, 0x6B, 0x72, 0x7A,
      0x80, 0x82, 0x89, 0x8B, 0x92, 0xAB, 0xB2, 0xC2, 0xCB, 0xD2, 0xDA, 0xE2, 0xEB, 0xF2, 0xFA]),
    (3, [0x04, 0x44, 0x64, 0x87, 0xA7]),
    (4, [0x0C, 0x14, 0x1C, 0x34, 0x3C, 0x54, 0x5C, 0x74, 0x7C, 0x8F, 0x97, 0xAF, 0xB7, 0xBB, 0xBF, 0xD4,
      0xDC, 0xF4, 0xFC]),
    (5, [0x07, 0x27, 0x47, 0x67, 0x9B, 0x9C, 0x9E, 0x9F, 0xB3, 0xC7, 0xE7]),
    (6, [0x0F, 0x17, 0x2F, 0x37, 0x4F, 0x57, 0x6F, 0x77, 0x83, 0x93, 0xA3, 0xCF, 0xD7, 0xEF, 0xF7]),
    (7, [0x1B, 0x1F, 0x3B, 0x3F, 0x5B, 0x5F, 0x7B, 0x7F, 0xDB, 0xDF, 0xFB, 0xFF]),
    (8, [0x03, 0x13, 0x23, 0x33, 0x43, 0x53, 0x63, 0x73, 0xC3, 0xD3, 0xE3, 0xF3])]

/-- A machine whose one device is RAM over the whole space, in canonical form (20_memory.md R71, R72). -/
def State.onRam (s : State) (cells : Memory) : Prop :=
  s.devices = [{ Device.ram with store := .memory cells }] ∧ Memory.wf cells = true

end Sys2Proof.Machine
end

