-- ==== Sys2Proof/Certificates/Slice0/Obligations.lean ====
section
/-! DEFINITION. The statements for the provers: what the instructions and the machine do, from the numbered
rules of spec/. In the statements about `exec`, the state has PC past the instruction, as `fetch` leaves it
(spec 40_execution_and_addressing.md R131, log entry 3). -/

open Sys2Proof Sys2Proof.Machine

/-! ## Encoding and decoding -/

/-- 30_encoding.md R100-R102, R107: in both values of BRK_MODE the decoder gives back every well-formed
instruction from its bytes, with every operand at every value, whatever bytes follow. -/
def Obligations.DecodeGivesBackEncoded : Prop :=
  ∀ (m : BrkMode) (i : Instr) (rest : List Byte), i.wellFormed = true →
    decodeWith m (encodeWith m i ++ rest) = .ok (i, rest)

/-- 30_encoding.md R100, R101, R107: in both values of BRK_MODE, whatever the decoder reads is well formed, is as
long as its operand's mode says, and but for the byte BRK ignores in IMM is what the encoder writes. -/
def Obligations.DecodedIsEncoded : Prop :=
  ∀ (m : BrkMode) (bs rest : List Byte) (i : Instr), decodeWith m bs = .ok (i, rest) →
    i.wellFormed = true ∧
    ∃ used, bs = used ++ rest ∧ used.length = i.lengthWith m ∧ used.head? = some i.opcode
      ∧ (i ≠ .brk ∨ m = .imp → used = encodeWith m i)

/-- 30_encoding.md R103, R105: in both values of BRK_MODE every byte decodes; the opcode byte alone fixes mnemonic
and mode; only a list that ends too early is rejected. -/
def Obligations.EveryOpcodeByteDecodes : Prop :=
  ∀ m : BrkMode,
    (∀ (b b1 b2 : Byte) (rest : List Byte), ∃ i rest', decodeWith m (b :: b1 :: b2 :: rest) = .ok (i, rest')
      ∧ i.opcode = b ∧ i.wellFormed = true)
    ∧ (∀ i j : Instr, i.wellFormed = true → j.wellFormed = true → i.opcode = j.opcode →
        i.mnemonic = j.mnemonic ∧ (i.operandWith m).mode = (j.operandWith m).mode)
    ∧ ∀ bs e, decodeWith m bs = .error e → bs.length < 3

/-- 30_encoding.md R104, 45_stack_flags_system.md R265: the 105 undocumented bytes decode, each alone and in
both values of BRK_MODE, to the one instruction "???" in Implied mode, and no other byte does. -/
def Obligations.UndocumentedBytesDecodeToXxx : Prop :=
  undocumentedBytes.length = 105 ∧ undocumentedBytes.Nodup
    ∧ ∀ (m : BrkMode) (op : Byte) (rest : List Byte),
        (op ∈ undocumentedBytes → decodeWith m (op :: rest) = .ok (.xxx op, rest))
        ∧ (op ∉ undocumentedBytes →
            ∀ i rest', decodeWith m (op :: rest) = .ok (i, rest') → i.mnemonic ≠ .xxx)
        ∧ (Instr.xxx op).mnemonic = .xxx ∧ (Instr.xxx op).operandWith m = .imp

/-- 30_encoding.md R100: "The number of operand bytes is fixed by the addressing mode", and there are no
lengths but 1, 2 and 3; in both values of BRK_MODE. -/
def Obligations.LengthIsFixedByMode : Prop :=
  ∀ (m : BrkMode) (i j : Instr),
    ((i.operandWith m).mode = (j.operandWith m).mode → i.lengthWith m = j.lengthWith m)
    ∧ (encodeWith m i).length = i.lengthWith m
    ∧ (i.wellFormed = true → j.wellFormed = true → i.opcode = j.opcode → i.lengthWith m = j.lengthWith m)
    ∧ 1 ≤ i.lengthWith m ∧ i.lengthWith m ≤ 3
    ∧ (i.lengthWith m = 1 ↔ (i.operandWith m).mode = .imp)
    ∧ (i.lengthWith m = 3 ↔ (i.operandWith m).mode ∈ [Mode.abs, .abx, .aby, .ind])

/-- 30_encoding.md R102: words written out from the map decode to what they stand for (a sanity statement). -/
def Obligations.WrittenWordsDecode : Prop :=
  decode [0xA9, 0x7F] = .ok (.ldaImm 0x7F, [])
    ∧ decode [0x8D, 0x02, 0x00] = .ok (.staAbs 0x0002, [])
    ∧ decode [0x6D, 0x34, 0x12] = .ok (.adcAbs 0x1234, [])
    ∧ decode [0x36, 0x80] = .ok (.rolZpx 0x80, [])
    ∧ decode [0xD0, 0xFA] = .ok (.bne 0xFA, [])
    ∧ decode [0x6C, 0xFF, 0x01] = .ok (.jmpInd 0x01FF, [])
    ∧ decode [0x00, 0xEA, 0x40] = .ok (.brk, [0x40])
    ∧ decodeWith .imp [0x00, 0xEA, 0x40] = .ok (.brk, [0xEA, 0x40])
    ∧ decode [0x28] = .ok (.plp, [])
    ∧ decode [0x9E, 0x00] = .ok (.xxx 0x9E, [0x00])

/-! ## The bus and memory -/

/-- 20_memory.md R65, R67, R68: a read goes to the first device in registration order whose range holds the
address and which is readable, and to no other; none: 0x00 and nothing changes. -/
def Obligations.BusReadSelectsFirstReadable : Prop :=
  ∀ (ds : List Device) (a : Word) (ro : Bool),
    ((∀ d ∈ ds, ¬ (d.lower ≤ a ∧ a ≤ d.upper ∧ d.readable = true)) → Bus.read ds a ro = (0x00, ds))
    ∧ ∀ (before after : List Device) (d : Device), ds = before ++ d :: after →
        (∀ e ∈ before, ¬ (e.lower ≤ a ∧ a ≤ e.upper ∧ e.readable = true)) →
        d.lower ≤ a → a ≤ d.upper → d.readable = true →
        Bus.read ds a ro = ((d.read a ro).1, before ++ (d.read a ro).2 :: after)

/-- 20_memory.md R65, R66, R68: a write goes to the first device in registration order whose range holds the
address and which is writable, and to no other; none: the write is discarded. -/
def Obligations.BusWriteSelectsFirstWritable : Prop :=
  ∀ (ds : List Device) (a : Word) (v : Byte),
    ((∀ d ∈ ds, ¬ (d.lower ≤ a ∧ a ≤ d.upper ∧ d.writable = true)) → Bus.write ds a v = ds)
    ∧ ∀ (before after : List Device) (d : Device), ds = before ++ d :: after →
        (∀ e ∈ before, ¬ (e.lower ≤ a ∧ a ≤ e.upper ∧ e.writable = true)) →
        d.lower ≤ a → a ≤ d.upper → d.writable = true →
        Bus.write ds a v = before ++ d.write a v :: after

/-- 20_memory.md R71, R80: on RAM a read gives the last byte written there and 0x00 where none was, the same
for both values of `read_only`, and leaves the device as it is; a write changes no other byte. -/
def Obligations.RamReadsLastByteWritten : Prop :=
  (∀ (a : Word) (ro : Bool), Bus.read [Device.ram] a ro = (0x00, [Device.ram]))
    ∧ ∀ (s : State) (cells : Memory), s.onRam cells → ∀ (a b : Word) (v : Byte) (ro : Bool),
        (∃ cells', (s.memWrite a v).onRam cells')
        ∧ (Bus.read (s.memWrite a v).devices b ro).1 = (if b = a then v else s.peek b)
        ∧ (Bus.read s.devices b ro).2 = s.devices

/-- 20_memory.md R72, 70_reset_and_hazards.md R320: at any parameters a machine is built exactly from a well-formed
device list, with its registers zero and no reset done; any other list is refused. That complete() is false just
after construction is the model's choice (log entry 5): R320 leaves `cycles` unspecified and says that the core
counts as executing. -/
def Obligations.ConstructionNeedsWellFormedBus : Prop :=
  ∀ (p : Params) (ds : List Device),
    ((∀ d ∈ ds, d.lower ≤ d.upper) ∧ (∃ d ∈ ds, d.readable = true) ∧ (∃ d ∈ ds, d.writable = true) →
      ∃ s, construct p ds = .next s ∧ s.a = 0 ∧ s.x = 0 ∧ s.y = 0 ∧ s.sp = 0 ∧ s.pc = 0 ∧ s.p = 0
        ∧ s.resetDone = false ∧ s.complete = false ∧ s.devices = ds ∧ s.params = p)
    ∧ (¬ ((∀ d ∈ ds, d.lower ≤ d.upper) ∧ (∃ d ∈ ds, d.readable = true) ∧ ∃ d ∈ ds, d.writable = true) →
      construct p ds = .refused .malformedConfiguration)
    ∧ State.reset.devices = [Device.ram] ∧ State.reset.params = defaultParams

/-- 20_memory.md R69, R73: a read with `read_only = true` changes no device, whatever its behaviour, and the
core's own reads of plain memory change none either. -/
def Obligations.ReadOnlyReadsChangeNothing : Prop :=
  ∀ (s : State) (a : Word), (Bus.read s.devices a true).2 = s.devices
    ∧ (s.plain = true → s.memRead a = (s.peek a, s))

/-! ## Addressing modes -/

/-- 40_execution_and_addressing.md R140-R148: the effective address, displacement or operand of the modes
that read no pointer, with the wrap in page 0 and modulo 65536, and the extra-cycle bit. That the routine makes
no bus access and leaves PC, and that IMM's address is PC - 1, is the model's choice (log entry 3): the spec's
routines read their operand bytes and advance PC, which the model's fetch has done before they run. -/
def Obligations.DirectModesComputeAddress : Prop :=
  ∀ (s : State) (b : Byte) (w : Word),
    Operand.imp.resolve s = ({ s with fetched := s.a }, false)
    ∧ (Operand.imm b).resolve s = ({ s with addrAbs := s.pc - 1 }, false)
    ∧ (Operand.zp0 b).resolve s = ({ s with addrAbs := BitVec.ofNat 16 b.toNat }, false)
    ∧ (Operand.zpx b).resolve s
        = ({ s with addrAbs := BitVec.ofNat 16 ((b.toNat + s.x.toNat) % 256) }, false)
    ∧ (Operand.zpy b).resolve s
        = ({ s with addrAbs := BitVec.ofNat 16 ((b.toNat + s.y.toNat) % 256) }, false)
    ∧ (Operand.rel b).resolve s = ({ s with addrRel := b.signExtend 16 }, false)
    ∧ (Operand.abs w).resolve s = ({ s with addrAbs := w }, false)
    ∧ (Operand.abx w).resolve s = ({ s with addrAbs := BitVec.ofNat 16 (w.toNat + s.x.toNat) },
        decide ((w.toNat + s.x.toNat) % 65536 / 256 ≠ w.toNat / 256))
    ∧ (Operand.aby w).resolve s = ({ s with addrAbs := BitVec.ofNat 16 (w.toNat + s.y.toNat) },
        decide ((w.toNat + s.y.toNat) % 65536 / 256 ≠ w.toNat / 256))

/-- 40_execution_and_addressing.md R149-R151: Indirect with its page-wrap defect, Indirect,X and Indirect,Y
with both pointer bytes in page 0, on plain memory. -/
def Obligations.PointerModesComputeAddress : Prop :=
  ∀ (s : State) (t : Byte) (ptr : Word), s.plain = true →
    (Operand.ind ptr).address s
        = s.peek (if ptr.toNat % 256 = 255 then BitVec.ofNat 16 (ptr.toNat / 256 * 256)
            else BitVec.ofNat 16 (ptr.toNat + 1)) ++ s.peek ptr
    ∧ (Operand.ind ptr).crosses s = false
    ∧ (Operand.izx t).address s
        = s.peek (BitVec.ofNat 16 ((t.toNat + s.x.toNat + 1) % 256))
            ++ s.peek (BitVec.ofNat 16 ((t.toNat + s.x.toNat) % 256))
    ∧ (Operand.izx t).crosses s = false
    ∧ (Operand.izy t).address s
        = (s.peek (BitVec.ofNat 16 ((t.toNat + 1) % 256)) ++ s.peek (BitVec.ofNat 16 t.toNat))
            + BitVec.ofNat 16 s.y.toNat
    ∧ ((Operand.izy t).crosses s = true
        ↔ hi8 ((Operand.izy t).address s) ≠ s.peek (BitVec.ofNat 16 ((t.toNat + 1) % 256)))

/-- 40_execution_and_addressing.md R152: no addressing routine writes: on plain memory the devices are as
before, and the registers, the status and the cycle count are too. That PC is as before is the model's choice
(log entry 3): the spec's routines advance PC past their operand bytes, which the model's fetch has done. -/
def Obligations.AddressingWritesNothing : Prop :=
  ∀ (o : Operand) (s : State),
    (s.plain = true → (o.resolve s).1.devices = s.devices)
    ∧ (o.resolve s).1.busConfig = s.busConfig
    ∧ (o.resolve s).1.p = s.p ∧ (o.resolve s).1.pc = s.pc ∧ (o.resolve s).1.cycles = s.cycles
    ∧ ∀ r, (o.resolve s).1.reg r = s.reg r

/-! ## Loads, stores and transfers -/

/-- 41_load_store_transfer.md R170-R172: LDA, LDX and LDY load the operand byte, set Z and N from it, and take
the page-cross cycle. -/
def Obligations.LoadsLoadOperand : Prop :=
HasForms .lda
  [(0xA9, .imm, 2), (0xA5, .zp0, 3), (0xB5, .zpx, 4), (0xAD, .abs, 4), (0xBD, .abx, 4), (0xB9, .aby, 4),
    (0xA1, .izx, 6), (0xB1, .izy, 5)] ∧
HasForms .ldx [(0xA2, .imm, 2), (0xA6, .zp0, 3), (0xB6, .zpy, 4), (0xAE, .abs, 4), (0xBE, .aby, 4)] ∧
HasForms .ldy [(0xA0, .imm, 2), (0xA4, .zp0, 3), (0xB4, .zpx, 4), (0xAC, .abs, 4), (0xBC, .abx, 4)] ∧
  ∀ (i : Instr) (s : State) (r : Reg), (i.mnemonic, r) ∈ [(Mnemonic.lda, Reg.a), (.ldx, .x), (.ldy, .y)] →
    ∃ t, exec i s = .next t ∧ t.reg r = i.operand.value s ∧ ZNFrom (i.operand.value s) t
      ∧ t.pc = s.pc ∧ t.cycles = cyclesWith i true s ∧ t.devices = devicesAfterFetch i.operand s
      ∧ Frame [r] [.z, .n] [] s t

/-- 41_load_store_transfer.md R173-R175: STA, STX and STY write their register to the effective address,
without reading it, and touch no flag and no other byte. -/
def Obligations.StoresWriteRegister : Prop :=
HasForms .sta
  [(0x85, .zp0, 3), (0x95, .zpx, 4), (0x8D, .abs, 4), (0x9D, .abx, 5), (0x99, .aby, 5), (0x81, .izx, 6),
    (0x91, .izy, 6)] ∧
HasForms .stx [(0x86, .zp0, 3), (0x96, .zpy, 4), (0x8E, .abs, 4)] ∧
HasForms .sty [(0x84, .zp0, 3), (0x94, .zpx, 4), (0x8C, .abs, 4)] ∧
  ∀ (i : Instr) (s : State) (r : Reg), (i.mnemonic, r) ∈ [(Mnemonic.sta, Reg.a), (.stx, .x), (.sty, .y)] →
    ∃ t, exec i s = .next t
      ∧ t.devices = Bus.write (devicesAfterResolve i.operand s) (i.operand.address s) (s.reg r)
      ∧ t.p = s.p ∧ t.pc = s.pc ∧ t.cycles = cyclesWith i false s
      ∧ Frame [] [] [i.operand.address s] s t

/-- 41_load_store_transfer.md R176-R181: the six transfers; all but TXS set Z and N. -/
def Obligations.TransfersCopyRegister : Prop :=
HasForms .tax [(0xAA, .imp, 2)] ∧
HasForms .tay [(0xA8, .imp, 2)] ∧
HasForms .tsx [(0xBA, .imp, 2)] ∧
HasForms .txa [(0x8A, .imp, 2)] ∧
HasForms .txs [(0x9A, .imp, 2)] ∧
HasForms .tya [(0x98, .imp, 2)] ∧
  (∀ (i : Instr) (s : State) (src dst : Reg),
    (i.mnemonic, src, dst) ∈ [(Mnemonic.tax, Reg.a, Reg.x), (.tay, .a, .y), (.tsx, .sp, .x), (.txa, .x, .a),
      (.tya, .y, .a)] →
    ∃ t, exec i s = .next t ∧ t.reg dst = s.reg src ∧ ZNFrom (s.reg src) t
      ∧ t.pc = s.pc ∧ t.cycles = cyclesWith i false s ∧ t.devices = s.devices ∧ Frame [dst] [.z, .n] [] s t)
  ∧ ∀ s : State, ∃ t, exec .txs s = .next t ∧ t.sp = s.x ∧ t.p = s.p ∧ t.pc = s.pc
      ∧ t.cycles = cyclesWith .txs false s ∧ t.devices = s.devices ∧ Frame [.sp] [] [] s t

/-! ## Arithmetic and logic -/

/-- 42_arithmetic_logic.md R190: ADC in every form, with the carry, overflow, zero and negative formulas, V set
exactly when the operands' signs agree and the result's differs, and D without effect. -/
def Obligations.AdcAddsWithCarry : Prop :=
HasForms .adc
  [(0x69, .imm, 2), (0x65, .zp0, 3), (0x75, .zpx, 4), (0x6D, .abs, 4), (0x7D, .abx, 4), (0x79, .aby, 4),
    (0x61, .izx, 6), (0x71, .izy, 5)] ∧
  ∀ (i : Instr) (s : State), i.mnemonic = .adc →
    ∃ t, exec i s = .next t ∧
      (let m := i.operand.value s
       let tmp := s.a.toNat + m.toNat + (if s.flag .c then 1 else 0)
       t.a = BitVec.ofNat 8 tmp ∧ (t.flag .c = true ↔ 255 < tmp) ∧ (t.flag .z = true ↔ tmp % 256 = 0)
        ∧ t.flag .n = (BitVec.ofNat 8 tmp).msb
        ∧ (t.flag .v = true ↔ ~~~ (s.a ^^^ m) &&& (s.a ^^^ BitVec.ofNat 8 tmp) &&& 0x80 ≠ 0)
        ∧ (t.flag .v = true ↔ s.a.msb = m.msb ∧ (BitVec.ofNat 8 tmp).msb ≠ s.a.msb))
      ∧ t.pc = s.pc ∧ t.cycles = cyclesWith i true s ∧ t.devices = devicesAfterFetch i.operand s
      ∧ Frame [.a] [.c, .z, .v, .n] [] s t

/-- 42_arithmetic_logic.md R191: SBC in every form adds the operand's complement with the carry; read as a
subtraction, A becomes A - M - (1 - C) modulo 256 and C says that no borrow occurred. -/
def Obligations.SbcSubtractsWithBorrow : Prop :=
HasForms .sbc
  [(0xE9, .imm, 2), (0xE5, .zp0, 3), (0xF5, .zpx, 4), (0xED, .abs, 4), (0xFD, .abx, 4), (0xF9, .aby, 4),
    (0xE1, .izx, 6), (0xF1, .izy, 5)] ∧
  ∀ (i : Instr) (s : State), i.mnemonic = .sbc →
    ∃ t, exec i s = .next t ∧
      (let m := i.operand.value s
       let v := m ^^^ 0xFF
       let c := if s.flag .c then 1 else 0
       let tmp := s.a.toNat + v.toNat + c
       t.a = BitVec.ofNat 8 tmp ∧ (t.flag .c = true ↔ 255 < tmp) ∧ (t.flag .z = true ↔ tmp % 256 = 0)
        ∧ t.flag .n = (BitVec.ofNat 8 tmp).msb
        ∧ (t.flag .v = true ↔ ~~~ (s.a ^^^ v) &&& (s.a ^^^ BitVec.ofNat 8 tmp) &&& 0x80 ≠ 0)
        ∧ t.a = s.a - m - BitVec.ofNat 8 (1 - c)
        ∧ (t.flag .c = true ↔ m.toNat + (1 - c) ≤ s.a.toNat))
      ∧ t.pc = s.pc ∧ t.cycles = cyclesWith i true s ∧ t.devices = devicesAfterFetch i.operand s
      ∧ Frame [.a] [.c, .z, .v, .n] [] s t

/-- 45_stack_flags_system.md R261, 10_state.md R29: D is inert. An instruction other than PHP, BRK (which stack
P) and CLD, SED, PLP, RTI (which write D) does the same whatever D is and leaves D; those four give the
same state from both values. -/
def Obligations.DecimalFlagIsInert : Prop :=
  ∀ (i : Instr) (s : State) (v : Bool),
    (i.mnemonic ∉ [Mnemonic.php, .brk, .cld, .sed, .plp, .rti] →
      ∃ t, exec i s = .next t ∧ exec i (s.setFlag .d v) = .next (t.setFlag .d v) ∧ t.flag .d = s.flag .d)
    ∧ (i.mnemonic ∈ [Mnemonic.cld, .sed, .plp, .rti] → exec i (s.setFlag .d v) = exec i s)

/-- 42_arithmetic_logic.md R192-R194: AND, ORA and EOR. -/
def Obligations.LogicCombinesWithA : Prop :=
HasForms .and
  [(0x29, .imm, 2), (0x25, .zp0, 3), (0x35, .zpx, 4), (0x2D, .abs, 4), (0x3D, .abx, 4), (0x39, .aby, 4),
    (0x21, .izx, 6), (0x31, .izy, 5)] ∧
HasForms .ora
  [(0x09, .imm, 2), (0x05, .zp0, 3), (0x15, .zpx, 4), (0x0D, .abs, 4), (0x1D, .abx, 4), (0x19, .aby, 4),
    (0x01, .izx, 6), (0x11, .izy, 5)] ∧
HasForms .eor
  [(0x49, .imm, 2), (0x45, .zp0, 3), (0x55, .zpx, 4), (0x4D, .abs, 4), (0x5D, .abx, 4), (0x59, .aby, 4),
    (0x41, .izx, 6), (0x51, .izy, 5)] ∧
  ∀ (i : Instr) (s : State) (f : Byte → Byte → Byte),
    (i.mnemonic = .and ∧ f = (· &&& ·)) ∨ (i.mnemonic = .ora ∧ f = (· ||| ·))
        ∨ (i.mnemonic = .eor ∧ f = (· ^^^ ·)) →
    ∃ t, exec i s = .next t ∧ t.a = f s.a (i.operand.value s) ∧ ZNFrom (f s.a (i.operand.value s)) t
      ∧ t.pc = s.pc ∧ t.cycles = cyclesWith i true s ∧ t.devices = devicesAfterFetch i.operand s
      ∧ Frame [.a] [.z, .n] [] s t

/-- 42_arithmetic_logic.md R195: BIT takes Z from A & M, N and V from M, and changes no register. -/
def Obligations.BitTestsOperand : Prop :=
HasForms .bit [(0x24, .zp0, 3), (0x2C, .abs, 4)] ∧
  ∀ (i : Instr) (s : State), i.mnemonic = .bit →
    ∃ t, exec i s = .next t ∧ (t.flag .z = true ↔ s.a &&& i.operand.value s = 0)
      ∧ t.flag .n = (i.operand.value s).getLsbD 7 ∧ t.flag .v = (i.operand.value s).getLsbD 6
      ∧ t.pc = s.pc ∧ t.cycles = cyclesWith i false s ∧ t.devices = devicesAfterFetch i.operand s
      ∧ Frame [] [.z, .v, .n] [] s t

/-- 42_arithmetic_logic.md R196-R198: CMP, CPX and CPY: C and Z are the unsigned comparison, N is bit 7 of the
difference, V and every register unchanged; CMP takes the page-cross cycle. -/
def Obligations.ComparesAreUnsigned : Prop :=
HasForms .cmp
  [(0xC9, .imm, 2), (0xC5, .zp0, 3), (0xD5, .zpx, 4), (0xCD, .abs, 4), (0xDD, .abx, 4), (0xD9, .aby, 4),
    (0xC1, .izx, 6), (0xD1, .izy, 5)] ∧
HasForms .cpx [(0xE0, .imm, 2), (0xE4, .zp0, 3), (0xEC, .abs, 4)] ∧
HasForms .cpy [(0xC0, .imm, 2), (0xC4, .zp0, 3), (0xCC, .abs, 4)] ∧
  ∀ (i : Instr) (s : State) (r : Reg) (returns : Bool),
    (i.mnemonic, r, returns) ∈ [(Mnemonic.cmp, Reg.a, true), (.cpx, .x, false), (.cpy, .y, false)] →
    ∃ t, exec i s = .next t
      ∧ (t.flag .c = true ↔ (i.operand.value s).toNat ≤ (s.reg r).toNat)
      ∧ (t.flag .z = true ↔ s.reg r = i.operand.value s)
      ∧ t.flag .n = (s.reg r - i.operand.value s).msb
      ∧ t.pc = s.pc ∧ t.cycles = cyclesWith i returns s ∧ t.devices = devicesAfterFetch i.operand s
      ∧ Frame [] [.c, .z, .n] [] s t

/-- 42_arithmetic_logic.md R199, R200, 20_memory.md R77: INC and DEC read the effective address once, then write
the wrapped result to it once; Z and N from the result, no register and no other byte changed. -/
def Obligations.IncDecUpdateMemory : Prop :=
HasForms .inc [(0xE6, .zp0, 5), (0xF6, .zpx, 6), (0xEE, .abs, 6), (0xFE, .abx, 7)] ∧
HasForms .dec [(0xC6, .zp0, 5), (0xD6, .zpx, 6), (0xCE, .abs, 6), (0xDE, .abx, 7)] ∧
  ∀ (i : Instr) (s : State) (k : Nat), (i.mnemonic = .inc ∧ k = 1) ∨ (i.mnemonic = .dec ∧ k = 255) →
    ∃ t, exec i s = .next t ∧
      (let r := BitVec.ofNat 8 ((i.operand.value s).toNat + k)
       t.devices = Bus.write (devicesAfterFetch i.operand s) (i.operand.address s) r ∧ ZNFrom r t)
      ∧ t.pc = s.pc ∧ t.cycles = cyclesWith i false s ∧ Frame [] [.z, .n] [i.operand.address s] s t

/-- 42_arithmetic_logic.md R201-R204: INX, INY, DEX and DEY wrap modulo 256 and set Z and N. -/
def Obligations.IndexStepsWrap : Prop :=
HasForms .inx [(0xE8, .imp, 2)] ∧
HasForms .iny [(0xC8, .imp, 2)] ∧
HasForms .dex [(0xCA, .imp, 2)] ∧
HasForms .dey [(0x88, .imp, 2)] ∧
  ∀ (i : Instr) (s : State) (r : Reg) (k : Nat),
    (i.mnemonic, r, k) ∈ [(Mnemonic.inx, Reg.x, 1), (.iny, .y, 1), (.dex, .x, 255), (.dey, .y, 255)] →
    ∃ t, exec i s = .next t ∧ t.reg r = BitVec.ofNat 8 ((s.reg r).toNat + k)
      ∧ ZNFrom (BitVec.ofNat 8 ((s.reg r).toNat + k)) t
      ∧ t.pc = s.pc ∧ t.cycles = cyclesWith i false s ∧ t.devices = s.devices ∧ Frame [r] [.z, .n] [] s t

/-! ## Shifts and rotates -/

/-- 43_shift_rotate.md R220-R224: the result and carry of ASL, LSR, ROL and ROR, written to A in Implied mode
and to the effective address otherwise, after exactly one read of it. -/
def Obligations.ShiftsWriteBack : Prop :=
HasForms .asl [(0x0A, .imp, 2), (0x06, .zp0, 5), (0x16, .zpx, 6), (0x0E, .abs, 6), (0x1E, .abx, 7)] ∧
HasForms .lsr [(0x4A, .imp, 2), (0x46, .zp0, 5), (0x56, .zpx, 6), (0x4E, .abs, 6), (0x5E, .abx, 7)] ∧
HasForms .rol [(0x2A, .imp, 2), (0x26, .zp0, 5), (0x36, .zpx, 6), (0x2E, .abs, 6), (0x3E, .abx, 7)] ∧
HasForms .ror [(0x6A, .imp, 2), (0x66, .zp0, 5), (0x76, .zpx, 6), (0x6E, .abs, 6), (0x7E, .abx, 7)] ∧
  ∀ (i : Instr) (s : State) (r carry : Nat),
    (let m := (i.operand.value s).toNat
     let c := if s.flag .c then 1 else 0
     (i.mnemonic, r, carry) ∈ [(Mnemonic.asl, m * 2 % 256, m / 128), (.lsr, m / 2, m % 2),
        (.rol, (m * 2 + c) % 256, m / 128), (.ror, c * 128 + m / 2, m % 2)]) →
    ∃ t, exec i s = .next t ∧ (t.flag .c = true ↔ carry = 1) ∧ ZNFrom (BitVec.ofNat 8 r) t
      ∧ t.pc = s.pc ∧ t.cycles = cyclesWith i false s
      ∧ (if i.operand = .imp then
          i.operand.value s = s.a ∧ t.a = BitVec.ofNat 8 r ∧ t.devices = s.devices
            ∧ Frame [.a] [.c, .z, .n] [] s t
        else
          t.devices = Bus.write (devicesAfterFetch i.operand s) (i.operand.address s) (BitVec.ofNat 8 r)
            ∧ Frame [] [.c, .z, .n] [i.operand.address s] s t)

/-! ## Control flow -/

/-- 44_control_flow.md R230-R238: the eight branches: target relative to the next instruction, one cycle more
when taken, one more again on another page, nothing else changed and no bus access. -/
def Obligations.BranchesTestTheirFlag : Prop :=
HasForms .bcc [(0x90, .rel, 2)] ∧
HasForms .bcs [(0xB0, .rel, 2)] ∧
HasForms .beq [(0xF0, .rel, 2)] ∧
HasForms .bmi [(0x30, .rel, 2)] ∧
HasForms .bne [(0xD0, .rel, 2)] ∧
HasForms .bpl [(0x10, .rel, 2)] ∧
HasForms .bvc [(0x50, .rel, 2)] ∧
HasForms .bvs [(0x70, .rel, 2)] ∧
  ∀ (i : Instr) (s : State) (rel : Byte) (f : Flag) (v : Bool),
    (i, f, v) ∈ [(Instr.bcc rel, Flag.c, false), (.bcs rel, .c, true), (.beq rel, .z, true),
      (.bmi rel, .n, true), (.bne rel, .z, false), (.bpl rel, .n, false), (.bvc rel, .v, false),
      (.bvs rel, .v, true)] →
    ∃ t, exec i s = .next t ∧
      (let target := s.pc + rel.signExtend 16
       if s.flag f = v then
         t.pc = target ∧ t.addrAbs = target
          ∧ t.cycles = s.baseCycles i.opcode + (if target.toNat / 256 = s.pc.toNat / 256 then 1 else 2)
       else t.pc = s.pc ∧ t.cycles = s.baseCycles i.opcode)
      ∧ (s.params = defaultParams → s.baseCycles i.opcode = 2)
      ∧ t.addrRel = rel.signExtend 16 ∧ t.p = s.p ∧ t.devices = s.devices ∧ Frame [] [] [] s t

/-- 44_control_flow.md R239: JMP loads PC with the effective address, and in Indirect mode with the page-wrap
defect of the pointer read; it changes nothing else. -/
def Obligations.JmpLoadsPc : Prop :=
HasForms .jmp [(0x4C, .abs, 3), (0x6C, .ind, 5)] ∧
  (∀ (addr : Word) (s : State), ∃ t, exec (.jmpAbs addr) s = .next t ∧ t.pc = addr
      ∧ t.cycles = s.baseCycles 0x4C
      ∧ t.p = s.p ∧ t.devices = s.devices ∧ Frame [] [] [] s t)
  ∧ ∀ (ptr : Word) (s : State), ∃ t, exec (.jmpInd ptr) s = .next t ∧ t.pc = (Operand.ind ptr).address s
      ∧ (s.plain = true → t.pc
          = s.peek (if ptr.toNat % 256 = 255 then BitVec.ofNat 16 (ptr.toNat - 255)
              else BitVec.ofNat 16 (ptr.toNat + 1)) ++ s.peek ptr)
      ∧ t.cycles = s.baseCycles 0x6C ∧ t.p = s.p ∧ t.devices = devicesAfterResolve (.ind ptr) s
      ∧ Frame [] [] [] s t

/-- 44_control_flow.md R240: JSR pushes the address of its own last byte, high byte first, S wrapping within
page 1, and jumps. -/
def Obligations.JsrPushesReturnAddress : Prop :=
HasForms .jsr [(0x20, .abs, 6)] ∧
  ∀ (addr : Word) (s : State), ∃ t, exec (.jsr addr) s = .next t ∧ t.pc = addr ∧ t.sp = s.sp - 2
      ∧ t.devices = Bus.write (Bus.write s.devices (0x0100 + s.sp.setWidth 16) (hi8 (s.pc - 1)))
          (0x0100 + (s.sp - 1).setWidth 16) (lo8 (s.pc - 1))
      ∧ t.p = s.p ∧ t.cycles = s.baseCycles 0x20
      ∧ Frame [.sp] [] [0x0100 + s.sp.setWidth 16, 0x0100 + (s.sp - 1).setWidth 16] s t

/-- 44_control_flow.md R241: RTS pulls the low byte, then the high byte, and returns to one past that address. -/
def Obligations.RtsReturnsPastPulledAddress : Prop :=
HasForms .rts [(0x60, .imp, 6)] ∧
  ∀ s : State, ∃ t, exec .rts s = .next t ∧ t.sp = s.sp + 2 ∧ t.p = s.p ∧ t.cycles = s.baseCycles 0x60
      ∧ (let lo := Bus.read s.devices (0x0100 + (s.sp + 1).setWidth 16) false
         let hi := Bus.read lo.2 (0x0100 + (s.sp + 2).setWidth 16) false
         t.pc = (hi.1 ++ lo.1) + 1 ∧ t.devices = hi.2)
      ∧ Frame [.sp] [] [] s t

/-- 44_control_flow.md R241 (SRC's stack-discipline property): on RAM, an RTS run with the stack JSR left
returns to the instruction after the JSR and restores S. -/
def Obligations.RtsUndoesJsr : Prop :=
  ∀ (s : State) (cells : Memory) (addr : Word), s.onRam cells →
    ∃ t, exec (.jsr addr) s = .next t ∧
      ∀ t' : State, t'.sp = t.sp → t'.devices = t.devices →
        ∃ u, exec .rts t' = .next u ∧ u.pc = s.pc ∧ u.sp = s.sp ∧ u.devices = t.devices

/-! ## Stack, flags, system -/

/-- 45_stack_flags_system.md R250, R251: PHA pushes A; PHP pushes P with B and U set in the pushed byte only. -/
def Obligations.PushesWriteStack : Prop :=
HasForms .pha [(0x48, .imp, 3)] ∧
HasForms .php [(0x08, .imp, 3)] ∧
  ∀ (i : Instr) (s : State) (v : Byte), (i, v) ∈ [(Instr.pha, s.a), (.php, s.p ||| 0x30)] →
    ∃ t, exec i s = .next t ∧ t.devices = Bus.write s.devices (0x0100 + s.sp.setWidth 16) v
      ∧ t.sp = s.sp - 1 ∧ t.p = s.p ∧ t.pc = s.pc ∧ t.cycles = s.baseCycles i.opcode
      ∧ Frame [.sp] [] [0x0100 + s.sp.setWidth 16] s t

/-- 45_stack_flags_system.md R252, R253: PLA pulls A and sets Z and N; PLP pulls P, B included, with U forced. -/
def Obligations.PullsReadStack : Prop :=
HasForms .pla [(0x68, .imp, 4)] ∧
HasForms .plp [(0x28, .imp, 4)] ∧
  ∀ s : State,
    (let r := Bus.read s.devices (0x0100 + (s.sp + 1).setWidth 16) false
     (∃ t, exec .pla s = .next t ∧ t.a = r.1 ∧ ZNFrom r.1 t ∧ t.devices = r.2 ∧ t.sp = s.sp + 1
       ∧ t.pc = s.pc ∧ t.cycles = s.baseCycles 0x68 ∧ Frame [.a, .sp] [.z, .n] [] s t)
     ∧ ∃ t, exec .plp s = .next t ∧ t.p = r.1 ||| 0x20 ∧ t.devices = r.2 ∧ t.sp = s.sp + 1
       ∧ t.pc = s.pc ∧ t.cycles = s.baseCycles 0x28 ∧ Frame [.sp] [.c, .z, .i, .d, .b, .u, .v, .n] [] s t)

/-- 10_state.md R25, 45_stack_flags_system.md R254-R260: the flags are bits 0 to 7 of P in the order C, Z, I, D,
B, U, V, N; each flag instruction writes its one bit of P and nothing else; an irq() right after SEI does nothing
and one right after CLI is taken. -/
def Obligations.FlagInstructionsWriteOneBit : Prop :=
HasForms .clc [(0x18, .imp, 2)] ∧
HasForms .cld [(0xD8, .imp, 2)] ∧
HasForms .cli [(0x58, .imp, 2)] ∧
HasForms .clv [(0xB8, .imp, 2)] ∧
HasForms .sec [(0x38, .imp, 2)] ∧
HasForms .sed [(0xF8, .imp, 2)] ∧
HasForms .sei [(0x78, .imp, 2)] ∧
  (∀ s : State, s.flag .c = s.p.getLsbD 0 ∧ s.flag .z = s.p.getLsbD 1 ∧ s.flag .i = s.p.getLsbD 2
    ∧ s.flag .d = s.p.getLsbD 3 ∧ s.flag .b = s.p.getLsbD 4 ∧ s.flag .u = s.p.getLsbD 5
    ∧ s.flag .v = s.p.getLsbD 6 ∧ s.flag .n = s.p.getLsbD 7)
  ∧ ∀ (i : Instr) (s : State) (f : Flag) (v : Bool) (p : Byte),
    (i, f, v, p) ∈ [(Instr.clc, Flag.c, false, s.p &&& 0xFE), (.cld, .d, false, s.p &&& 0xF7),
      (.cli, .i, false, s.p &&& 0xFB), (.clv, .v, false, s.p &&& 0xBF), (.sec, .c, true, s.p ||| 0x01),
      (.sed, .d, true, s.p ||| 0x08), (.sei, .i, true, s.p ||| 0x04)] →
    ∃ t, exec i s = .next t ∧ t.p = p ∧ t.flag f = v ∧ t.pc = s.pc ∧ t.cycles = s.baseCycles i.opcode
      ∧ t.devices = s.devices
      ∧ Frame [] [f] [] s t ∧ (i = .sei → t.irq = t ∧ t.nmi.sp = t.sp - 3)
      ∧ (i = .cli → t.irq.cycles = 7 ∧ t.irq.sp = t.sp - 3)

/-- 45_stack_flags_system.md R262, R265: NOP and every undocumented byte complete with no effect but their
base cycles (2 to 8 by default); no extra cycle is ever added, though the operation returns 1 for six bytes. The base
cycles of each undocumented byte are those of the opcode map (30_encoding.md R102). -/
def Obligations.NoOperationsOnlyTakeCycles : Prop :=
HasForms .nop [(0xEA, .imp, 2)] ∧
  (∀ (i : Instr) (s : State), i.mnemonic = .nop ∨ i.mnemonic = .xxx →
    ∃ t, exec i s = .next t ∧ t = { s with fetched := s.a, cycles := s.baseCycles i.opcode }
      ∧ (s.params = defaultParams → 2 ≤ t.cycles ∧ t.cycles ≤ 8))
  ∧ ∀ (op : Byte) (o : Operand) (s : State), (noOperation op o s).1 = s
      ∧ ((noOperation op o s).2 = true ↔ op ∈ [0x1C, 0x3C, 0x5C, 0x7C, 0xDC, 0xFC])
      ∧ ((Instr.xxx op).wellFormed = true ↔ ∃ row ∈ undocumentedCycles, op ∈ row.2)
      ∧ ∀ row ∈ undocumentedCycles, op ∈ row.2 → baseCycles op = row.1 ∧
        ∃ t, exec (.xxx op) s = .next t ∧ t.cycles = s.baseCycles op
          ∧ (s.params = defaultParams → t.cycles = row.1)

/-- 45_stack_flags_system.md R263: BRK's operation, in both values of BRK_MODE. PC is one past where fetch left
it; PCH, PCL and P with I and B set are pushed; I is 1 and B is 0 live; PC is the vector at 0xFFFE. -/
def Obligations.BrkEntersHandler : Prop :=
HasForms .brk [(0x00, .imm, 7)] ∧
  ∀ s : State, ∃ t, exec .brk s = .next t ∧
      (let ret := s.pc + 1
       let d1 := Bus.write s.devices (0x0100 + s.sp.setWidth 16) (hi8 ret)
       let d2 := Bus.write d1 (0x0100 + (s.sp - 1).setWidth 16) (lo8 ret)
       let d3 := Bus.write d2 (0x0100 + (s.sp - 2).setWidth 16) (s.p ||| 0x14)
       let lo := Bus.read d3 0xFFFE false
       let hi := Bus.read lo.2 0xFFFF false
       t.devices = hi.2 ∧ t.pc = hi.1 ++ lo.1)
      ∧ t.sp = s.sp - 3 ∧ t.p = (s.p ||| 0x04) &&& 0xEF ∧ t.cycles = s.baseCycles 0x00
      ∧ Frame [.sp] [.i, .b] [0x0100 + s.sp.setWidth 16, 0x0100 + (s.sp - 1).setWidth 16,
          0x0100 + (s.sp - 2).setWidth 16] s t

/-- 30_encoding.md R107: 0x00 is a 2-byte instruction on a machine whose BRK_MODE is IMM and a 1-byte one on one
whose BRK_MODE is IMP, and the return address BRK pushes is the opcode's address + 3 or + 2, on RAM; and the
clock that fetches it does just that. -/
def Obligations.BrkLengthFollowsBrkMode : Prop :=
  ∀ (m : BrkMode) (s : State) (cells : Memory), s.params.brkMode = m → s.onRam cells → s.peek s.pc = 0x00 →
    (fetch s).1 = .brk ∧ (fetch s).2.pc = s.pc + (match m with | .imm => 2 | .imp => 1)
    ∧ Instr.brk.lengthWith m = (match m with | .imm => 2 | .imp => 1)
    ∧ (∃ t, exec .brk (fetch s).2 = .next t ∧ t.cycles = s.baseCycles 0x00
      ∧ (let ret := s.pc + (match m with | .imm => 3 | .imp => 2)
         t.peek (0x0100 + s.sp.setWidth 16) = hi8 ret ∧ t.peek (0x0100 + (s.sp - 1).setWidth 16) = lo8 ret))
    ∧ (s.resetDone = true → s.cycles = 0 →
      ∃ t, command .clock s = .next t ∧ t.sp = s.sp - 3 ∧ t.opcode = 0x00
        ∧ (let ret := s.pc + (match m with | .imm => 3 | .imp => 2)
           t.peek (0x0100 + s.sp.setWidth 16) = hi8 ret ∧ t.peek (0x0100 + (s.sp - 1).setWidth 16) = lo8 ret))

/-- 45_stack_flags_system.md R264: RTI pulls P with B and U cleared, then PC low and high; PC is not
incremented; once clock() has written U, P is (pulled & 0xCF) | 0x20. -/
def Obligations.RtiRestoresStatusAndPc : Prop :=
HasForms .rti [(0x40, .imp, 6)] ∧
  ∀ s : State, ∃ t, exec .rti s = .next t ∧
      (let p := Bus.read s.devices (0x0100 + (s.sp + 1).setWidth 16) false
       let lo := Bus.read p.2 (0x0100 + (s.sp + 2).setWidth 16) false
       let hi := Bus.read lo.2 (0x0100 + (s.sp + 3).setWidth 16) false
       t.p = p.1 &&& 0xCF ∧ (t.setFlag .u true).p = (p.1 &&& 0xCF) ||| 0x20
        ∧ t.pc = hi.1 ++ lo.1 ∧ t.devices = hi.2)
      ∧ t.sp = s.sp + 3 ∧ t.cycles = s.baseCycles 0x40
      ∧ Frame [.sp] [.c, .z, .i, .d, .b, .u, .v, .n] [] s t

/-! ## Interrupts, reset, host commands -/

/-- 60_exceptions.md R283, R284: irq() with I = 0 and nmi() with any I push PCH, PCL and P with B = 0, U = 1,
I = 1, leave that P live, load PC from their vector and set 7 or 8 cycles; irq() with I = 1 does nothing. -/
def Obligations.InterruptsEnterHandler : Prop :=
  ∀ s : State, (s.flag .i = true → s.irq = s) ∧
    ∀ (t : State) (vector : Word) (n : Nat),
      (t = s.irq ∧ s.flag .i = false ∧ vector = 0xFFFE ∧ n = 7) ∨ (t = s.nmi ∧ vector = 0xFFFA ∧ n = 8) →
      (let p := (s.p ||| 0x24) &&& 0xEF
       let d1 := Bus.write s.devices (0x0100 + s.sp.setWidth 16) (hi8 s.pc)
       let d2 := Bus.write d1 (0x0100 + (s.sp - 1).setWidth 16) (lo8 s.pc)
       let d3 := Bus.write d2 (0x0100 + (s.sp - 2).setWidth 16) p
       let lo := Bus.read d3 vector false
       let hi := Bus.read lo.2 (vector + 1) false
       t.p = p ∧ t.devices = hi.2 ∧ t.pc = hi.1 ++ lo.1)
      ∧ t.sp = s.sp - 3 ∧ t.cycles = n
      ∧ Frame [.sp] [.i, .b, .u] [0x0100 + s.sp.setWidth 16, 0x0100 + (s.sp - 1).setWidth 16,
          0x0100 + (s.sp - 2).setWidth 16] s t

/-- 60_exceptions.md R286: on RAM, bit 4 of the stacked status at 0x0100 + S + 1 is 1 after BRK and 0 after a
taken irq() and after nmi(), and the live B is 0 in all three; BRK and IRQ share a vector, NMI has its own. -/
def Obligations.StackedBreakFlagTellsCause : Prop :=
  ∀ (s t : State) (cells : Memory) (b : Bool) (vector : Word), s.onRam cells →
    (exec .brk s = .next t ∧ b = true ∧ vector = 0xFFFE)
        ∨ (s.flag .i = false ∧ t = s.irq ∧ b = false ∧ vector = 0xFFFE)
        ∨ (t = s.nmi ∧ b = false ∧ vector = 0xFFFA) →
    (t.peek (0x0100 + (t.sp + 1).setWidth 16)).getLsbD 4 = b ∧ t.flag .b = false
      ∧ t.pc = s.peek (vector + 1) ++ s.peek vector

/-- 60_exceptions.md R289: on RAM, RTI run with the stack a taken irq(), an nmi() or a BRK left returns to the
stacked PC (for BRK one past where fetch left PC), restores S, and keeps I = 1; the other flags but B and U
come back. -/
def Obligations.RtiUndoesEntry : Prop :=
  ∀ (s t t' : State) (cells : Memory) (ret : Word), s.onRam cells →
    (s.flag .i = false ∧ t = s.irq ∧ ret = s.pc) ∨ (t = s.nmi ∧ ret = s.pc)
        ∨ (exec .brk s = .next t ∧ ret = s.pc + 1) →
    t'.sp = t.sp → t'.devices = t.devices →
    ∃ u, exec .rti t' = .next u ∧ u.pc = ret ∧ u.sp = s.sp ∧ u.flag .i = true ∧ u.flag .b = false
      ∧ ∀ f ∈ [Flag.c, .z, .d, .v, .n], u.flag f = s.flag f

/-- 60_exceptions.md R287: an irq() after an irq() or an nmi() is dropped; an nmi() after a taken irq() is taken
and on RAM its frame lies above the IRQ's and holds the IRQ handler's address; a reset() after either wins and
leaves the stacked bytes. -/
def Obligations.ConsecutiveInterrupts : Prop :=
  (∀ s : State, s.irq.irq = s.irq ∧ s.nmi.irq = s.nmi)
    ∧ (∀ (s : State) (cells : Memory), s.onRam cells → s.flag .i = false →
        s.irq.nmi.sp = s.sp - 6 ∧ s.irq.nmi.pc = s.peek 0xFFFB ++ s.peek 0xFFFA
        ∧ s.irq.nmi.peek (0x0100 + (s.sp - 3).setWidth 16) = hi8 s.irq.pc
        ∧ s.irq.nmi.peek (0x0100 + (s.sp - 4).setWidth 16) = lo8 s.irq.pc
        ∧ s.irq.pc = s.peek 0xFFFF ++ s.peek 0xFFFE)
    ∧ ∀ s t : State, t = s.irq ∨ t = s.nmi → t.resetCommand.sp = 0xFD ∧ t.resetCommand.p = 0x20
        ∧ t.resetCommand.cycles = 8 ∧ t.resetCommand.totalCycles = 0
        ∧ (t.plain = true → t.resetCommand.devices = t.devices
          ∧ t.resetCommand.pc = t.peek 0xFFFD ++ t.peek 0xFFFC)

/-- 70_reset_and_hazards.md R321, R324: what reset() leaves in every field, with exactly two bus reads and no
write. -/
def Obligations.ResetLeavesResetValues : Prop :=
  ∀ s : State,
    (let lo := Bus.read s.devices 0xFFFC false
     let hi := Bus.read lo.2 0xFFFD false
     s.resetCommand = { s with
      a := 0x00, x := 0x00, y := 0x00, sp := 0xFD, pc := hi.1 ++ lo.1, p := 0x20, cycles := 8,
      totalCycles := 0, opcode := 0, fetched := 0, temp := 0, addrAbs := 0, addrRel := 0,
      resetDone := true, devices := hi.2 })
    ∧ (∀ f : Flag, s.resetCommand.flag f = decide (f = .u)) ∧ s.resetCommand.complete = false
    ∧ (s.plain = true → s.resetCommand.devices = s.devices)

/-- 70_reset_and_hazards.md R321, R325: `State.reset` is what reset() leaves of the machine built with the
default parameters and devices and nothing loaded. -/
def Obligations.ResetStateIsResetOfDefaultMachine : Prop :=
  ∃ s, construct defaultParams [Device.ram] = .next s ∧ command .reset s = .next State.reset

/-- 70_reset_and_hazards.md R322: after reset() the first 8 clocks only count down; complete() is true after the
8th and no earlier, and total_cycles is then 8; on plain memory the 9th takes its opcode from the vector
address; and on RAM that address is the little-endian word written at 0xFFFC, by the host before reset()
(`State.bootstrap`) or by the core. -/
def Obligations.EightClocksAfterReset : Prop :=
  ∀ s : State,
    (let after := fun k : Nat => { s.resetCommand with cycles := 8 - k, totalCycles := k }
     s.resetCommand = after 0
      ∧ (∀ k, k < 8 → command .clock (after k) = .next (after (k + 1)))
      ∧ (∀ k, k ≤ 8 → ((after k).complete = true ↔ k = 8))
      ∧ (s.plain = true → ∃ t, command .clock (after 8) = .next t ∧ t.opcode = s.peek s.resetCommand.pc))
    ∧ ∀ (cells : Memory) (lo hi : Byte), s.onRam cells →
        (s.bootstrap [(0, 0xFFFC, lo), (0, 0xFFFD, hi)]).resetCommand.pc = BitVec.ofNat 16 (hi.toNat * 256 + lo.toNat)
        ∧ ((s.memWrite 0xFFFC lo).memWrite 0xFFFD hi).resetCommand.pc
          = BitVec.ofNat 16 (hi.toNat * 256 + lo.toNat)

/-- 70_reset_and_hazards.md R323: before the first reset Clock, Irq and Nmi are refused and Reset is accepted; after
it every command is accepted. What each accepted command then does (40_execution_and_addressing.md R130) is its
own operation: Reset is reset(), at any time (R321), Irq is irq() (60_exceptions.md R283), Nmi is nmi() (R284), and
Clock in the executing state only counts (R131; the fetching state is StepRunsDecodedInstruction's). -/
def Obligations.CommandsBeforeResetAreRefused : Prop :=
  ∀ s : State,
    (s.resetDone = false → ∀ c : HostCommand, c ≠ .reset → command c s = .refused .beforeFirstReset)
    ∧ (command .reset s = .next s.resetCommand ∧ s.resetCommand.resetDone = true)
    ∧ (s.resetDone = true → command .irq s = .next s.irq ∧ command .nmi s = .next s.nmi)
    ∧ (s.resetDone = true → s.cycles ≠ 0 →
        command .clock s = .next { s with totalCycles := s.totalCycles + 1, cycles := s.cycles - 1 })
    ∧ (s.resetDone = true → ∀ c : HostCommand, ∃ t, command c s = .next t ∧ t.resetDone = true)

/-- 40_execution_and_addressing.md R135: every clock() adds exactly 1 to total_cycles, whichever state the core
is in; irq() and nmi() add nothing; reset() makes it 0. -/
def Obligations.TotalCyclesCountsClocks : Prop :=
  ∀ s t : State,
    (command .clock s = .next t → t.totalCycles = s.totalCycles + 1)
    ∧ (command .irq s = .next t ∨ command .nmi s = .next t → t.totalCycles = s.totalCycles)
    ∧ (command .reset s = .next t → t.totalCycles = 0)

/-- 40_execution_and_addressing.md R136: a clock(), which completes once a reset has run, delivers one
notification for each of PC, P, S, A, X, Y that it changes, in that order, with the new value, and one that only
counts down delivers none. That the notifications are read off the states before and after the clock() is the
model's choice (log entry 11). -/
def Obligations.NotificationsNameChanges : Prop :=
  ∀ s : State, (s.resetDone = true → ∃ t, command .clock s = .next t) ∧
    ∀ t : State, command .clock s = .next t →
      (∀ v, .pc v ∈ notifications s t ↔ t.pc ≠ s.pc ∧ v = t.pc)
      ∧ (∀ v, .p v ∈ notifications s t ↔ t.p ≠ s.p ∧ v = t.p)
      ∧ (∀ v, .sp v ∈ notifications s t ↔ t.sp ≠ s.sp ∧ v = t.sp)
      ∧ (∀ v, .a v ∈ notifications s t ↔ t.a ≠ s.a ∧ v = t.a)
      ∧ (∀ v, .x v ∈ notifications s t ↔ t.x ≠ s.x ∧ v = t.x)
      ∧ (∀ v, .y v ∈ notifications s t ↔ t.y ≠ s.y ∧ v = t.y)
      ∧ (notifications s t).Sublist [.pc t.pc, .p t.p, .sp t.sp, .a t.a, .x t.x, .y t.y]
      ∧ (s.cycles ≠ 0 → notifications s t = [])

/-- 60_exceptions.md R281: no instruction and no command after the first reset ever stops the machine. -/
def Obligations.NothingFaultsOrIsRefused : Prop :=
  (∀ (i : Instr) (s : State), ∃ t, exec i s = .next t)
    ∧ ∀ s : State, s.resetDone = true → ∃ t, step s = .next t ∧ t.resetDone = true

/-! ## Steps and whole-machine rules -/

/-- 40_execution_and_addressing.md R131, R152, 20_memory.md R82: where the bytes at PC decode, in the machine's
BRK_MODE, to an instruction, the clock that fetches runs exactly it: from the state with the opcode recorded, PC
past the instruction and U set; after it U is set, total_cycles grows and one cycle is done (`countDown`: from a
count of 0, which only a BASE_CYCLES entry of 0 gives, the free value of log entry 14).
On any bus the fetch makes one read of each byte of the instruction, the opcode first, then the low and the high
operand byte, each on the devices the one before left, and no other access; BRK's pad byte is stepped over and not
read (45_stack_flags_system.md R263). That all of them come before the addressing routine is the model's choice (log
entry 3). On plain memory the reads change nothing.
A step is the host's next command on the state with that command taken from the list, Clock where the list is empty:
the model's choice (log entry 2). -/
def Obligations.StepRunsDecodedInstruction : Prop :=
  (∀ s : State, (s.hostCommands = [] → step s = command .clock s)
    ∧ ∀ c cs, s.hostCommands = c :: cs → step s = command c { s with hostCommands := cs })
  ∧ (∀ (s : State) (i : Instr) (rest : List Byte),
    let op := Bus.read s.devices s.pc false
    let lo := Bus.read op.2 (s.pc + 1) false
    let hi := Bus.read lo.2 (s.pc + 2) false
    decodeWith s.params.brkMode [op.1, lo.1, hi.1] = .ok (i, rest) →
    let fetched := { s with
      opcode := op.1, pc := s.pc + BitVec.ofNat 16 (i.lengthWith s.params.brkMode), p := s.p ||| 0x20,
      devices := if i = .brk ∨ i.lengthWith s.params.brkMode = 1 then op.2
        else if i.lengthWith s.params.brkMode = 2 then lo.2 else hi.2 }
    fetch s = (i, fetched)
      ∧ (s.resetDone = true → s.cycles = 0 →
        command .clock s =
          (match exec i fetched with
          | .next t => .next { t with
              p := t.p ||| 0x20, totalCycles := t.totalCycles + 1,
              cycles := countDown t.cycles (t.totalCycles + 1) }
          | .fault r => .fault r
          | .refused r => .refused r)))
  ∧ ∀ (s : State) (i : Instr) (rest : List Byte),
    s.resetDone = true → s.cycles = 0 → s.plain = true →
    (s.hostCommands = [] ∨ s.hostCommands.head? = some .clock) →
    decodeWith s.params.brkMode [s.peek s.pc, s.peek (s.pc + 1), s.peek (s.pc + 2)] = .ok (i, rest) →
    step s =
      (match exec i { s with
          opcode := s.peek s.pc, pc := s.pc + BitVec.ofNat 16 (i.lengthWith s.params.brkMode), p := s.p ||| 0x20,
          hostCommands := s.hostCommands.tail } with
      | .next t => .next { t with
          p := t.p ||| 0x20, totalCycles := t.totalCycles + 1, cycles := countDown t.cycles (t.totalCycles + 1) }
      | .fault r => .fault r
      | .refused r => .refused r)

/-- 40_execution_and_addressing.md R132: an instruction's tick leaves it at least one cycle to count down where its
base count is at least 2, as every default count is; the next ticks change only the two counters; complete() is
false until the last of them and true after it. -/
def Obligations.InstructionTicksCountDown : Prop :=
  ∀ s : State, s.resetDone = true → s.cycles = 0 → s.hostCommands = [] →
    ∃ t, step s = .next t ∧
      (s.params = defaultParams ∨ 2 ≤ s.baseCycles s.fetchOpcode.1 → 1 ≤ t.cycles) ∧
      ∀ k, k ≤ t.cycles →
        Host.Core.run Sys2Proof.core k t
          = .next { t with cycles := t.cycles - k, totalCycles := t.totalCycles + k }

/-- 10_state.md R31, R36, 20_memory.md R71, R72: every step keeps the machine invariant: the bus well formed,
every backing store canonical, and after the first reset U = 1 and, with the default cycle table, at most 8
cycles remaining. -/
def Obligations.EveryStepKeepsInvariant : Prop :=
  ∀ s t : State, s.Inv → step s = .next t → t.Inv

/-- The invariant holds right after reset and, at any parameters, right after construction from RAM
(70_reset_and_hazards.md R320, R321). -/
def Obligations.ResetStateMeetsInvariant : Prop :=
  State.reset.Inv ∧ ∀ p : Params, (State.constructed p [Device.ram]).Inv

/-- 10_state.md R41, 30_encoding.md R103: the device list's ranges and flags and the parameters are fixed: no step
changes them, from any state. -/
def Obligations.BusConfigurationIsFixed : Prop :=
  ∀ s t : State, step s = .next t → t.busConfig = s.busConfig ∧ t.params = s.params

/-- 10_state.md R21-R23: which instructions write A, X, Y and S: no other changes them. -/
def Obligations.OnlyListedInstructionsWriteRegisters : Prop :=
  ∀ (i : Instr) (s t : State), exec i s = .next t →
    (i.mnemonic ∉ [Mnemonic.adc, .sbc, .and, .ora, .eor, .lda, .pla, .txa, .tya] →
      (i.mnemonic ∈ [Mnemonic.asl, .lsr, .rol, .ror] → i.operand ≠ .imp) → t.a = s.a)
    ∧ (i.mnemonic ∉ [Mnemonic.ldx, .tax, .tsx, .inx, .dex] → t.x = s.x)
    ∧ (i.mnemonic ∉ [Mnemonic.ldy, .tay, .iny, .dey] → t.y = s.y)
    ∧ (i.mnemonic ∉ [Mnemonic.txs, .pha, .php, .pla, .plp, .jsr, .rts, .rti, .brk] → t.sp = s.sp)

/-- 10_state.md R26-R33 and its summary table: which instructions write each flag: no other changes it. -/
def Obligations.OnlyListedInstructionsWriteFlags : Prop :=
  ∀ (i : Instr) (s t : State), exec i s = .next t →
    let zn := [Mnemonic.adc, .sbc, .and, .ora, .eor, .lda, .ldx, .ldy, .tax, .tay, .txa, .tya, .tsx, .pla,
      .inc, .dec, .inx, .iny, .dex, .dey, .cmp, .cpx, .cpy, .asl, .lsr, .rol, .ror, .bit, .plp, .rti]
    (i.mnemonic ∉ [Mnemonic.adc, .sbc, .cmp, .cpx, .cpy, .asl, .lsr, .rol, .ror, .clc, .sec, .plp, .rti] →
      t.flag .c = s.flag .c)
    ∧ (i.mnemonic ∉ zn → t.flag .z = s.flag .z ∧ t.flag .n = s.flag .n)
    ∧ (i.mnemonic ∉ [Mnemonic.cli, .sei, .brk, .plp, .rti] → t.flag .i = s.flag .i)
    ∧ (i.mnemonic ∉ [Mnemonic.cld, .sed, .plp, .rti] → t.flag .d = s.flag .d)
    ∧ (i.mnemonic ∉ [Mnemonic.brk, .plp, .rti] → t.flag .b = s.flag .b)
    ∧ (i.mnemonic ∉ [Mnemonic.plp, .rti] → t.flag .u = s.flag .u)
    ∧ (i.mnemonic ∉ [Mnemonic.adc, .sbc, .bit, .clv, .plp, .rti] → t.flag .v = s.flag .v)

/-- 20_memory.md R77: which instructions write memory: on plain memory every other one leaves the devices as
they are. -/
def Obligations.OnlyListedInstructionsWriteMemory : Prop :=
  ∀ (i : Instr) (s t : State), exec i s = .next t → s.plain = true →
    i.mnemonic ∉ [Mnemonic.sta, .stx, .sty, .inc, .dec, .pha, .php, .jsr, .brk] →
    (i.mnemonic ∈ [Mnemonic.asl, .lsr, .rol, .ror] → i.operand = .imp) → t.devices = s.devices

/-! ## Operand reads and host writes -/

/-- 40_execution_and_addressing.md R139, R140, R149-R152: the operand byte M. fetch() gives A in Implied mode and
otherwise makes one read of the effective address, whose byte it also leaves in `fetched`; the pointer modes read
their pointer's low byte, then its high byte, and the others make no read. That Immediate's byte is read
with the instruction, and fetch() then makes no access, is the model's choice (log entry 3): the byte is
still the one at the effective address. -/
def Obligations.FetchReadsEffectiveAddress : Prop :=
  ∀ s : State,
    (Operand.imp.value s = s.a ∧ devicesAfterFetch .imp s = s.devices)
    ∧ (∀ b : Byte, (Operand.imm b).value s = b ∧ devicesAfterFetch (.imm b) s = s.devices
        ∧ (s.plain = true → (fetch s).1.operand = .imm b → (fetch s).1 ≠ .brk →
            b = s.peek ((Operand.imm b).address (fetch s).2)))
    ∧ (∀ o : Operand, o.mode ≠ .imp → o.mode ≠ .imm →
        (o.value s, devicesAfterFetch o s) = Bus.read (devicesAfterResolve o s) (o.address s) false
        ∧ (s.plain = true → o.value s = s.peek (o.address s)))
    ∧ (∀ o : Operand, (o.resolve s).1.fetchOperand o
        = (o.value s, { (o.resolve s).1 with fetched := o.value s, devices := devicesAfterFetch o s }))
    ∧ (∀ o : Operand, o.mode ∉ [Mode.ind, .izx, .izy] → devicesAfterResolve o s = s.devices)
    ∧ ∀ (o : Operand) (loAddr hiAddr offset : Word),
        ((∃ ptr : Word, o = .ind ptr ∧ loAddr = ptr ∧ offset = 0
            ∧ hiAddr = BitVec.ofNat 16 (if ptr.toNat % 256 = 255 then ptr.toNat - 255 else ptr.toNat + 1))
          ∨ (∃ t : Byte, o = .izx t ∧ loAddr = BitVec.ofNat 16 ((t.toNat + s.x.toNat) % 256) ∧ offset = 0
            ∧ hiAddr = BitVec.ofNat 16 ((t.toNat + s.x.toNat + 1) % 256))
          ∨ (∃ t : Byte, o = .izy t ∧ loAddr = BitVec.ofNat 16 t.toNat ∧ offset = BitVec.ofNat 16 s.y.toNat
            ∧ hiAddr = BitVec.ofNat 16 ((t.toNat + 1) % 256))) →
        (let lo := Bus.read s.devices loAddr false
         let hi := Bus.read lo.2 hiAddr false
         o.address s = (hi.1 ++ lo.1) + offset ∧ devicesAfterResolve o s = hi.2)

/-- 20_memory.md R83, 70_reset_and_hazards.md R325: the host's writes between commands, one after the other, each
into the device named and into nothing else. That they pass by the bus, so that a device's flags play no part,
is the model's choice (log entry 10); on RAM it makes no difference. -/
def Obligations.HostWritesReachDevice : Prop :=
  ∀ (s : State) (k : Nat) (a : Word) (v : Byte),
    (∀ (before after : List Device) (d : Device), s.devices = before ++ d :: after → before.length = k →
        s.bootstrap [(k, a, v)] = { s with devices := before ++ d.write a v :: after })
    ∧ (s.devices.length ≤ k → s.bootstrap [(k, a, v)] = s)
    ∧ (∀ ws, s.bootstrap ((k, a, v) :: ws) = (s.bootstrap [(k, a, v)]).bootstrap ws)
    ∧ ∀ cells : Memory, s.onRam cells → s.bootstrap [(0, a, v)] = s.memWrite a v

/-! ## The parameters -/

/-- 00_scope.md R7: DEVICES, BASE_CYCLES and BRK_MODE are arguments of the machine, which can be built with any
BRK_MODE, any function from opcode bytes to counts and any well-formed device list, and whose every command
keeps the first two; the record of parameters is that mode and that function and nothing else; the defaults are
RAM alone, the opcode map's counts and IMM. That the parameters stand in the state is the model's choice (log
entries 6, 7). -/
def Obligations.ParametersAreArguments : Prop :=
  (∀ (m : BrkMode) (f : Byte → Nat) (ds : List Device), (∀ d ∈ ds, d.lower ≤ d.upper) →
    (∃ d ∈ ds, d.readable = true) → (∃ d ∈ ds, d.writable = true) →
    ∃ s, construct (Params.of m f) ds = .next s ∧ s.devices = ds ∧ s.params.brkMode = m
      ∧ (∀ op : Byte, s.baseCycles op = f op)
      ∧ ∀ (c : HostCommand) (t u : State), t.params = s.params → command c t = .next u →
          u.params.brkMode = m ∧ ∀ op : Byte, u.baseCycles op = f op)
  ∧ (∀ p : Params, Params.of p.brkMode p.base = p)
  ∧ State.reset.params.brkMode = .imm ∧ (∀ op : Byte, State.reset.baseCycles op = baseCycles op)
  ∧ State.reset.devices = [Device.ram] ∧ State.reset.plain = true
end

