-- ==== Sys2Proof/Laws/State.lean ====
section
/-! SUPPORT. What each elementary update of the state does to each field, by definition. -/

namespace Sys2Proof.Machine

/-! ### Writing one flag -/

@[simp] theorem State.setFlag_a (s : State) (f : Flag) (v : Bool) : (s.setFlag f v).a = s.a := rfl
@[simp] theorem State.setFlag_x (s : State) (f : Flag) (v : Bool) : (s.setFlag f v).x = s.x := rfl
@[simp] theorem State.setFlag_y (s : State) (f : Flag) (v : Bool) : (s.setFlag f v).y = s.y := rfl
@[simp] theorem State.setFlag_sp (s : State) (f : Flag) (v : Bool) : (s.setFlag f v).sp = s.sp := rfl
@[simp] theorem State.setFlag_pc (s : State) (f : Flag) (v : Bool) : (s.setFlag f v).pc = s.pc := rfl
@[simp] theorem State.setFlag_p (s : State) (f : Flag) (v : Bool) :
    (s.setFlag f v).p = putFlag s.p f v := rfl
@[simp] theorem State.setFlag_cycles (s : State) (f : Flag) (v : Bool) :
    (s.setFlag f v).cycles = s.cycles := rfl
@[simp] theorem State.setFlag_totalCycles (s : State) (f : Flag) (v : Bool) :
    (s.setFlag f v).totalCycles = s.totalCycles := rfl
@[simp] theorem State.setFlag_opcode (s : State) (f : Flag) (v : Bool) :
    (s.setFlag f v).opcode = s.opcode := rfl
@[simp] theorem State.setFlag_fetched (s : State) (f : Flag) (v : Bool) :
    (s.setFlag f v).fetched = s.fetched := rfl
@[simp] theorem State.setFlag_temp (s : State) (f : Flag) (v : Bool) : (s.setFlag f v).temp = s.temp := rfl
@[simp] theorem State.setFlag_addrAbs (s : State) (f : Flag) (v : Bool) :
    (s.setFlag f v).addrAbs = s.addrAbs := rfl
@[simp] theorem State.setFlag_addrRel (s : State) (f : Flag) (v : Bool) :
    (s.setFlag f v).addrRel = s.addrRel := rfl
@[simp] theorem State.setFlag_resetDone (s : State) (f : Flag) (v : Bool) :
    (s.setFlag f v).resetDone = s.resetDone := rfl
@[simp] theorem State.setFlag_devices (s : State) (f : Flag) (v : Bool) :
    (s.setFlag f v).devices = s.devices := rfl
@[simp] theorem State.setFlag_params (s : State) (f : Flag) (v : Bool) :
    (s.setFlag f v).params = s.params := rfl
@[simp] theorem State.setFlag_hostCommands (s : State) (f : Flag) (v : Bool) :
    (s.setFlag f v).hostCommands = s.hostCommands := rfl

/-! ### Writing Z and N -/

@[simp] theorem State.setZN_a (s : State) (v : Byte) : (s.setZN v).a = s.a := rfl
@[simp] theorem State.setZN_x (s : State) (v : Byte) : (s.setZN v).x = s.x := rfl
@[simp] theorem State.setZN_y (s : State) (v : Byte) : (s.setZN v).y = s.y := rfl
@[simp] theorem State.setZN_sp (s : State) (v : Byte) : (s.setZN v).sp = s.sp := rfl
@[simp] theorem State.setZN_pc (s : State) (v : Byte) : (s.setZN v).pc = s.pc := rfl
@[simp] theorem State.setZN_p (s : State) (v : Byte) :
    (s.setZN v).p = putFlag (putFlag s.p .z (decide (v = 0x00))) .n (v.getLsbD 7) := rfl
@[simp] theorem State.setZN_cycles (s : State) (v : Byte) : (s.setZN v).cycles = s.cycles := rfl
@[simp] theorem State.setZN_totalCycles (s : State) (v : Byte) :
    (s.setZN v).totalCycles = s.totalCycles := rfl
@[simp] theorem State.setZN_opcode (s : State) (v : Byte) : (s.setZN v).opcode = s.opcode := rfl
@[simp] theorem State.setZN_fetched (s : State) (v : Byte) : (s.setZN v).fetched = s.fetched := rfl
@[simp] theorem State.setZN_temp (s : State) (v : Byte) : (s.setZN v).temp = s.temp := rfl
@[simp] theorem State.setZN_addrAbs (s : State) (v : Byte) : (s.setZN v).addrAbs = s.addrAbs := rfl
@[simp] theorem State.setZN_addrRel (s : State) (v : Byte) : (s.setZN v).addrRel = s.addrRel := rfl
@[simp] theorem State.setZN_resetDone (s : State) (v : Byte) : (s.setZN v).resetDone = s.resetDone := rfl
@[simp] theorem State.setZN_devices (s : State) (v : Byte) : (s.setZN v).devices = s.devices := rfl
@[simp] theorem State.setZN_params (s : State) (v : Byte) : (s.setZN v).params = s.params := rfl
@[simp] theorem State.setZN_hostCommands (s : State) (v : Byte) :
    (s.setZN v).hostCommands = s.hostCommands := rfl

/-! ### A bus write -/

@[simp] theorem State.memWrite_a (s : State) (a : Word) (v : Byte) : (s.memWrite a v).a = s.a := rfl
@[simp] theorem State.memWrite_x (s : State) (a : Word) (v : Byte) : (s.memWrite a v).x = s.x := rfl
@[simp] theorem State.memWrite_y (s : State) (a : Word) (v : Byte) : (s.memWrite a v).y = s.y := rfl
@[simp] theorem State.memWrite_sp (s : State) (a : Word) (v : Byte) : (s.memWrite a v).sp = s.sp := rfl
@[simp] theorem State.memWrite_pc (s : State) (a : Word) (v : Byte) : (s.memWrite a v).pc = s.pc := rfl
@[simp] theorem State.memWrite_p (s : State) (a : Word) (v : Byte) : (s.memWrite a v).p = s.p := rfl
@[simp] theorem State.memWrite_cycles (s : State) (a : Word) (v : Byte) :
    (s.memWrite a v).cycles = s.cycles := rfl
@[simp] theorem State.memWrite_totalCycles (s : State) (a : Word) (v : Byte) :
    (s.memWrite a v).totalCycles = s.totalCycles := rfl
@[simp] theorem State.memWrite_opcode (s : State) (a : Word) (v : Byte) :
    (s.memWrite a v).opcode = s.opcode := rfl
@[simp] theorem State.memWrite_fetched (s : State) (a : Word) (v : Byte) :
    (s.memWrite a v).fetched = s.fetched := rfl
@[simp] theorem State.memWrite_temp (s : State) (a : Word) (v : Byte) :
    (s.memWrite a v).temp = s.temp := rfl
@[simp] theorem State.memWrite_addrAbs (s : State) (a : Word) (v : Byte) :
    (s.memWrite a v).addrAbs = s.addrAbs := rfl
@[simp] theorem State.memWrite_addrRel (s : State) (a : Word) (v : Byte) :
    (s.memWrite a v).addrRel = s.addrRel := rfl
@[simp] theorem State.memWrite_resetDone (s : State) (a : Word) (v : Byte) :
    (s.memWrite a v).resetDone = s.resetDone := rfl
@[simp] theorem State.memWrite_devices (s : State) (a : Word) (v : Byte) :
    (s.memWrite a v).devices = Bus.write s.devices a v := rfl
@[simp] theorem State.memWrite_params (s : State) (a : Word) (v : Byte) :
    (s.memWrite a v).params = s.params := rfl
@[simp] theorem State.memWrite_hostCommands (s : State) (a : Word) (v : Byte) :
    (s.memWrite a v).hostCommands = s.hostCommands := rfl

/-! ### The state after a bus read -/

@[simp] theorem State.memRead_state_a (s : State) (a : Word) : ((s.memRead a).2).a = s.a := rfl
@[simp] theorem State.memRead_state_x (s : State) (a : Word) : ((s.memRead a).2).x = s.x := rfl
@[simp] theorem State.memRead_state_y (s : State) (a : Word) : ((s.memRead a).2).y = s.y := rfl
@[simp] theorem State.memRead_state_sp (s : State) (a : Word) : ((s.memRead a).2).sp = s.sp := rfl
@[simp] theorem State.memRead_state_pc (s : State) (a : Word) : ((s.memRead a).2).pc = s.pc := rfl
@[simp] theorem State.memRead_state_p (s : State) (a : Word) : ((s.memRead a).2).p = s.p := rfl
@[simp] theorem State.memRead_state_cycles (s : State) (a : Word) :
    ((s.memRead a).2).cycles = s.cycles := rfl
@[simp] theorem State.memRead_state_totalCycles (s : State) (a : Word) :
    ((s.memRead a).2).totalCycles = s.totalCycles := rfl
@[simp] theorem State.memRead_state_opcode (s : State) (a : Word) :
    ((s.memRead a).2).opcode = s.opcode := rfl
@[simp] theorem State.memRead_state_fetched (s : State) (a : Word) :
    ((s.memRead a).2).fetched = s.fetched := rfl
@[simp] theorem State.memRead_state_temp (s : State) (a : Word) : ((s.memRead a).2).temp = s.temp := rfl
@[simp] theorem State.memRead_state_addrAbs (s : State) (a : Word) :
    ((s.memRead a).2).addrAbs = s.addrAbs := rfl
@[simp] theorem State.memRead_state_addrRel (s : State) (a : Word) :
    ((s.memRead a).2).addrRel = s.addrRel := rfl
@[simp] theorem State.memRead_state_resetDone (s : State) (a : Word) :
    ((s.memRead a).2).resetDone = s.resetDone := rfl
@[simp] theorem State.memRead_state_devices (s : State) (a : Word) :
    ((s.memRead a).2).devices = (Bus.read s.devices a false).2 := rfl
@[simp] theorem State.memRead_state_params (s : State) (a : Word) :
    ((s.memRead a).2).params = s.params := rfl
@[simp] theorem State.memRead_state_hostCommands (s : State) (a : Word) :
    ((s.memRead a).2).hostCommands = s.hostCommands := rfl

/-! ### A push -/

@[simp] theorem State.push_a (s : State) (v : Byte) : (s.push v).a = s.a := rfl
@[simp] theorem State.push_x (s : State) (v : Byte) : (s.push v).x = s.x := rfl
@[simp] theorem State.push_y (s : State) (v : Byte) : (s.push v).y = s.y := rfl
@[simp] theorem State.push_sp (s : State) (v : Byte) : (s.push v).sp = s.sp - 1 := rfl
@[simp] theorem State.push_pc (s : State) (v : Byte) : (s.push v).pc = s.pc := rfl
@[simp] theorem State.push_p (s : State) (v : Byte) : (s.push v).p = s.p := rfl
@[simp] theorem State.push_cycles (s : State) (v : Byte) : (s.push v).cycles = s.cycles := rfl
@[simp] theorem State.push_totalCycles (s : State) (v : Byte) :
    (s.push v).totalCycles = s.totalCycles := rfl
@[simp] theorem State.push_opcode (s : State) (v : Byte) : (s.push v).opcode = s.opcode := rfl
@[simp] theorem State.push_fetched (s : State) (v : Byte) : (s.push v).fetched = s.fetched := rfl
@[simp] theorem State.push_temp (s : State) (v : Byte) : (s.push v).temp = s.temp := rfl
@[simp] theorem State.push_addrAbs (s : State) (v : Byte) : (s.push v).addrAbs = s.addrAbs := rfl
@[simp] theorem State.push_addrRel (s : State) (v : Byte) : (s.push v).addrRel = s.addrRel := rfl
@[simp] theorem State.push_resetDone (s : State) (v : Byte) : (s.push v).resetDone = s.resetDone := rfl
@[simp] theorem State.push_devices (s : State) (v : Byte) :
    (s.push v).devices = Bus.write s.devices (stackAddr s.sp) v := rfl
@[simp] theorem State.push_params (s : State) (v : Byte) : (s.push v).params = s.params := rfl
@[simp] theorem State.push_hostCommands (s : State) (v : Byte) :
    (s.push v).hostCommands = s.hostCommands := rfl

/-! ### The state after a pull -/

@[simp] theorem State.pull_state_a (s : State) : (s.pull.2).a = s.a := rfl
@[simp] theorem State.pull_state_x (s : State) : (s.pull.2).x = s.x := rfl
@[simp] theorem State.pull_state_y (s : State) : (s.pull.2).y = s.y := rfl
@[simp] theorem State.pull_state_sp (s : State) : (s.pull.2).sp = s.sp + 1 := rfl
@[simp] theorem State.pull_state_pc (s : State) : (s.pull.2).pc = s.pc := rfl
@[simp] theorem State.pull_state_p (s : State) : (s.pull.2).p = s.p := rfl
@[simp] theorem State.pull_state_cycles (s : State) : (s.pull.2).cycles = s.cycles := rfl
@[simp] theorem State.pull_state_totalCycles (s : State) : (s.pull.2).totalCycles = s.totalCycles := rfl
@[simp] theorem State.pull_state_opcode (s : State) : (s.pull.2).opcode = s.opcode := rfl
@[simp] theorem State.pull_state_fetched (s : State) : (s.pull.2).fetched = s.fetched := rfl
@[simp] theorem State.pull_state_temp (s : State) : (s.pull.2).temp = s.temp := rfl
@[simp] theorem State.pull_state_addrAbs (s : State) : (s.pull.2).addrAbs = s.addrAbs := rfl
@[simp] theorem State.pull_state_addrRel (s : State) : (s.pull.2).addrRel = s.addrRel := rfl
@[simp] theorem State.pull_state_resetDone (s : State) : (s.pull.2).resetDone = s.resetDone := rfl
@[simp] theorem State.pull_state_devices (s : State) :
    (s.pull.2).devices = (Bus.read s.devices (stackAddr (s.sp + 1)) false).2 := rfl
@[simp] theorem State.pull_state_params (s : State) : (s.pull.2).params = s.params := rfl
@[simp] theorem State.pull_state_hostCommands (s : State) : (s.pull.2).hostCommands = s.hostCommands := rfl

/-! ### The end of a clock -/

@[simp] theorem State.tick_a (s : State) : (s.tick).a = s.a := rfl
@[simp] theorem State.tick_x (s : State) : (s.tick).x = s.x := rfl
@[simp] theorem State.tick_y (s : State) : (s.tick).y = s.y := rfl
@[simp] theorem State.tick_sp (s : State) : (s.tick).sp = s.sp := rfl
@[simp] theorem State.tick_pc (s : State) : (s.tick).pc = s.pc := rfl
@[simp] theorem State.tick_p (s : State) : (s.tick).p = s.p := rfl
@[simp] theorem State.tick_cycles (s : State) :
    (s.tick).cycles = countDown s.cycles (s.totalCycles + 1) := rfl
@[simp] theorem State.tick_totalCycles (s : State) : (s.tick).totalCycles = s.totalCycles + 1 := rfl
@[simp] theorem State.tick_opcode (s : State) : (s.tick).opcode = s.opcode := rfl
@[simp] theorem State.tick_fetched (s : State) : (s.tick).fetched = s.fetched := rfl
@[simp] theorem State.tick_temp (s : State) : (s.tick).temp = s.temp := rfl
@[simp] theorem State.tick_addrAbs (s : State) : (s.tick).addrAbs = s.addrAbs := rfl
@[simp] theorem State.tick_addrRel (s : State) : (s.tick).addrRel = s.addrRel := rfl
@[simp] theorem State.tick_resetDone (s : State) : (s.tick).resetDone = s.resetDone := rfl
@[simp] theorem State.tick_devices (s : State) : (s.tick).devices = s.devices := rfl
@[simp] theorem State.tick_params (s : State) : (s.tick).params = s.params := rfl
@[simp] theorem State.tick_hostCommands (s : State) : (s.tick).hostCommands = s.hostCommands := rfl

/-- Counting down from a count above zero. -/
@[simp] theorem countDown_succ (n total : Nat) : countDown (n + 1) total = n := rfl

theorem countDown_pos {n : Nat} (h : n ≠ 0) (total : Nat) : countDown n total = n - 1 := if_neg h

/-! ### The bytes read -/

@[simp] theorem State.memRead_byte (s : State) (a : Word) :
    (s.memRead a).1 = (Bus.read s.devices a false).1 := rfl

@[simp] theorem State.pull_byte (s : State) :
    s.pull.1 = (Bus.read s.devices (stackAddr (s.sp + 1)) false).1 := rfl

end Sys2Proof.Machine
end

