-- ==== Sys2Proof/Laws/Memory.lean ====
section
/-! SUPPORT. The backing store: reading what was written, the canonical form kept, and equal contents making
equal lists. -/

namespace Sys2Proof.Machine

/-- A lower bound of the canonical form may be lowered. -/
theorem Memory.wfFrom_mono {m : Memory} {lo lo' : Nat} (h : lo' ≤ lo) (hm : Memory.wfFrom lo m = true) :
    Memory.wfFrom lo' m = true := by
  cases m with
  | nil => rfl
  | cons c m =>
    simp only [Memory.wfFrom, Bool.and_eq_true, decide_eq_true_eq] at hm ⊢
    exact ⟨⟨⟨by omega, hm.1.1.2⟩, hm.1.2⟩, hm.2⟩

/-- Below the lower bound nothing is listed. -/
theorem Memory.read_below {m : Memory} {lo a : Nat} (hm : Memory.wfFrom lo m = true) (h : a < lo) :
    Memory.read m a = Memory.unlisted := by
  induction m generalizing lo with
  | nil => rfl
  | cons c m ih =>
    simp only [Memory.wfFrom, Bool.and_eq_true, decide_eq_true_eq] at hm
    rw [Memory.read, if_neg (by omega)]
    exact ih hm.2 (by omega)

theorem Memory.read_cons {m : Memory} {a : Nat} (hm : Memory.wfFrom (a + 1) m = true) (v : Byte) (b : Nat) :
    Memory.read (Memory.cons a v m) b = if b = a then v else Memory.read m b := by
  unfold Memory.cons
  split
  · next hv =>
    split
    · next hb => rw [hv, hb, Memory.read_below hm (by omega)]
    · rfl
  · rfl

theorem Memory.wfFrom_cons {m : Memory} {lo a : Nat} (hm : Memory.wfFrom (a + 1) m = true) (hlo : lo ≤ a)
    (ha : a < 65536) (v : Byte) : Memory.wfFrom lo (Memory.cons a v m) = true := by
  unfold Memory.cons
  split
  · exact Memory.wfFrom_mono (by omega) hm
  · next hv => simp [Memory.wfFrom, hlo, ha, hv, hm]

/-- A write keeps the canonical form above any bound the address respects. -/
theorem Memory.wfFrom_write {m : Memory} {lo a : Nat} (hm : Memory.wfFrom lo m = true) (hlo : lo ≤ a)
    (ha : a < 65536) (v : Byte) : Memory.wfFrom lo (Memory.write m a v) = true := by
  induction m generalizing lo with
  | nil => exact Memory.wfFrom_cons rfl hlo ha v
  | cons c m ih =>
    obtain ⟨b, w⟩ := c
    have hm' := hm
    simp only [Memory.wfFrom, Bool.and_eq_true, decide_eq_true_eq] at hm'
    obtain ⟨⟨⟨hb, hb2⟩, hw⟩, hrest⟩ := hm'
    simp only [Memory.write]
    split
    · next h =>
      exact Memory.wfFrom_cons (by simp [Memory.wfFrom, Nat.succ_le_of_lt h, hb2, hw, hrest]) hlo ha v
    · split
      · next h => subst h; exact Memory.wfFrom_cons hrest hlo ha v
      · next h1 h2 => simp [Memory.wfFrom, hb, hb2, hw, ih hrest (by omega)]

/-- Reading after a write to a canonical store: the byte written at its address, the old byte elsewhere. -/
theorem Memory.read_write_from {m : Memory} {lo : Nat} (hm : Memory.wfFrom lo m = true) (a b : Nat) (v : Byte) :
    Memory.read (Memory.write m a v) b = if b = a then v else Memory.read m b := by
  induction m generalizing lo with
  | nil => exact Memory.read_cons (m := []) rfl v b
  | cons c m ih =>
    obtain ⟨k, w⟩ := c
    have hm' := hm
    simp only [Memory.wfFrom, Bool.and_eq_true, decide_eq_true_eq] at hm'
    obtain ⟨⟨⟨hk, hk2⟩, hw⟩, hrest⟩ := hm'
    simp only [Memory.write]
    split
    · next h => exact Memory.read_cons (by simp [Memory.wfFrom, Nat.succ_le_of_lt h, hk2, hw, hrest]) v b
    · split
      · next h =>
        subst h
        rw [Memory.read_cons hrest]
        simp only [Memory.read]
        split <;> simp_all
      · next h1 h2 =>
        simp only [Memory.read]
        rw [ih hrest]
        split <;> split <;> simp_all

/-- Every memory operation keeps the canonical form; a read changes nothing, and this is the write. -/
theorem Memory.wf_write {m : Memory} (hm : Memory.wf m = true) (a : Word) (v : Byte) :
    Memory.wf (Memory.write m a.toNat v) = true :=
  Memory.wfFrom_write hm (Nat.zero_le _) a.isLt v

theorem Memory.wf_nil : Memory.wf [] = true := rfl

/-- The canonical form is unique: stores that read alike at every address are the same list. -/
theorem Memory.eq_of_reads {m n : Memory} {lo : Nat} (hm : Memory.wfFrom lo m = true)
    (hn : Memory.wfFrom lo n = true) (h : ∀ a, lo ≤ a → Memory.read m a = Memory.read n a) : m = n := by
  induction m generalizing n lo with
  | nil =>
    cases n with
    | nil => rfl
    | cons c n =>
      obtain ⟨b, w⟩ := c
      simp only [Memory.wfFrom, Bool.and_eq_true, decide_eq_true_eq] at hn
      have := h b hn.1.1.1
      simp only [Memory.read] at this
      exact absurd this.symm hn.1.2
  | cons c m ih =>
    obtain ⟨a, v⟩ := c
    have hm0 := hm
    simp only [Memory.wfFrom, Bool.and_eq_true, decide_eq_true_eq] at hm
    cases n with
    | nil =>
      have := h a hm.1.1.1
      simp only [Memory.read] at this
      exact absurd this hm.1.2
    | cons d n =>
      obtain ⟨b, w⟩ := d
      have hn0 := hn
      simp only [Memory.wfFrom, Bool.and_eq_true, decide_eq_true_eq] at hn
      have hab : a = b := by
        rcases Nat.lt_trichotomy a b with hlt | heq | hgt
        · have := h a hm.1.1.1
          rw [Memory.read_below (lo := a + 1) (m := (b, w) :: n) (by simp [Memory.wfFrom, hn, hlt]) (by omega)] at this
          simp only [Memory.read] at this
          exact absurd this hm.1.2
        · exact heq
        · have := h b hn.1.1.1
          rw [Memory.read_below (lo := b + 1) (m := (a, v) :: m) (by simp [Memory.wfFrom, hm, hgt]) (by omega)] at this
          simp only [Memory.read] at this
          exact absurd this.symm hn.1.2
      subst hab
      have hvw : v = w := by
        have := h a hm.1.1.1
        simpa [Memory.read] using this
      subst hvw
      have : m = n := ih hm.2 hn.2 (fun k hk => by
        have := h k (by omega)
        simp only [Memory.read] at this
        rwa [if_neg (by omega), if_neg (by omega)] at this)
      rw [this]

end Sys2Proof.Machine
end

