-- ==== Sys2Proof/Laws/Bus.lean ====
section
/-! SUPPORT. The bus: what a read and a write leave of the configuration, of the canonical form and of the
bytes other addresses read as. -/

namespace Sys2Proof.Machine

/-! ## Devices -/

theorem Device.read_config (d : Device) (a : Word) (ro : Bool) : (d.read a ro).2.config = d.config := by
  unfold Device.read Device.config
  split
  · rfl
  · dsimp only
    split <;> rfl

theorem Device.write_config (d : Device) (a : Word) (v : Byte) : (d.write a v).config = d.config := by
  unfold Device.write Device.config
  split <;> rfl

theorem Device.read_plain {d : Device} (h : d.plain = true) (a : Word) (ro : Bool) : (d.read a ro).2 = d := by
  unfold Device.plain at h
  unfold Device.read
  split <;> simp_all

theorem Device.read_only (d : Device) (a : Word) : (d.read a true).2 = d := by
  unfold Device.read
  split <;> simp

theorem Device.write_plain (d : Device) (a : Word) (v : Byte) : (d.write a v).plain = d.plain := by
  cases hs : d.store <;> simp [Device.write, Device.plain, hs]

theorem Device.read_canonical {d : Device} (h : d.canonical = true) (a : Word) (ro : Bool) :
    (d.read a ro).2.canonical = true := by
  unfold Device.canonical at h
  unfold Device.read Device.canonical
  split at h
  · next cells hs => simp [hs, h]
  · next k data hs => cases ro <;> simp [hs]

theorem Device.write_canonical {d : Device} (h : d.canonical = true) (a : Word) (v : Byte) :
    (d.write a v).canonical = true := by
  cases hs : d.store with
  | memory cells =>
    simp only [Device.canonical, hs] at h
    simpa [Device.write, Device.canonical, hs] using Memory.wf_write h a v
  | other k data => simp [Device.write, Device.canonical, hs]

/-- Plain memory in canonical form reads back what was written, and every other address as before. -/
theorem Device.read_write {d : Device} (hp : d.plain = true) (hc : d.canonical = true) (a b : Word) (v : Byte)
    (ro : Bool) : ((d.write a v).read b ro).1 = if b = a then v else (d.read b ro).1 := by
  unfold Device.plain at hp
  unfold Device.canonical at hc
  split at hp
  · next cells hs =>
    simp only [hs] at hc
    simp [Device.write, Device.read, hs, Memory.read_write_from hc, BitVec.toNat_inj]
  · exact absurd hp (by simp)

theorem Device.handlesRead_of_config {d e : Device} (h : d.config = e.config) (a : Word) :
    d.handlesRead a = e.handlesRead a := by
  simp only [Device.config, Prod.mk.injEq] at h
  simp [Device.handlesRead, Device.covers, h]

theorem Device.handlesWrite_of_config {d e : Device} (h : d.config = e.config) (a : Word) :
    d.handlesWrite a = e.handlesWrite a := by
  simp only [Device.config, Prod.mk.injEq] at h
  simp [Device.handlesWrite, Device.covers, h]

/-! ## The device list -/

theorem Bus.read_config (ds : List Device) (a : Word) (ro : Bool) :
    (Bus.read ds a ro).2.map Device.config = ds.map Device.config := by
  induction ds with
  | nil => rfl
  | cons d ds ih =>
    unfold Bus.read
    split
    · simp [Device.read_config]
    · simpa using ih

theorem Bus.write_config (ds : List Device) (a : Word) (v : Byte) :
    (Bus.write ds a v).map Device.config = ds.map Device.config := by
  induction ds with
  | nil => rfl
  | cons d ds ih =>
    unfold Bus.write
    split
    · simp [Device.write_config]
    · simpa using ih

theorem Bus.read_plain {ds : List Device} (h : ds.all Device.plain = true) (a : Word) (ro : Bool) :
    (Bus.read ds a ro).2 = ds := by
  induction ds with
  | nil => rfl
  | cons d ds ih =>
    simp only [List.all_cons, Bool.and_eq_true] at h
    unfold Bus.read
    split
    · simp [Device.read_plain h.1]
    · simpa using ih h.2

theorem Bus.read_byte_plain {ds : List Device} (h : ds.all Device.plain = true) (a : Word) (ro ro' : Bool) :
    (Bus.read ds a ro).1 = (Bus.read ds a ro').1 := by
  induction ds with
  | nil => rfl
  | cons d ds ih =>
    simp only [List.all_cons, Bool.and_eq_true] at h
    unfold Bus.read
    split
    · have hd := h.1
      unfold Device.plain at hd
      unfold Device.read
      split at hd <;> simp_all
    · simpa using ih h.2

theorem Bus.write_plain (ds : List Device) (a : Word) (v : Byte) :
    (Bus.write ds a v).all Device.plain = ds.all Device.plain := by
  induction ds with
  | nil => rfl
  | cons d ds ih =>
    unfold Bus.write
    split
    · simp [Device.write_plain]
    · simp [ih]

theorem Bus.read_canonical {ds : List Device} (h : ds.all Device.canonical = true) (a : Word) (ro : Bool) :
    (Bus.read ds a ro).2.all Device.canonical = true := by
  induction ds with
  | nil => rfl
  | cons d ds ih =>
    simp only [List.all_cons, Bool.and_eq_true] at h
    unfold Bus.read
    split
    · simp only [List.all_cons, Bool.and_eq_true]
      exact ⟨Device.read_canonical h.1 a ro, h.2⟩
    · simp only [List.all_cons, Bool.and_eq_true]
      exact ⟨h.1, ih h.2⟩

theorem Bus.write_canonical {ds : List Device} (h : ds.all Device.canonical = true) (a : Word) (v : Byte) :
    (Bus.write ds a v).all Device.canonical = true := by
  induction ds with
  | nil => rfl
  | cons d ds ih =>
    simp only [List.all_cons, Bool.and_eq_true] at h
    unfold Bus.write
    split
    · simp only [List.all_cons, Bool.and_eq_true]
      exact ⟨Device.write_canonical h.1 a v, h.2⟩
    · simp only [List.all_cons, Bool.and_eq_true]
      exact ⟨h.1, ih h.2⟩

/-- A write to plain canonical memories leaves what every other address reads as. -/
theorem Bus.read_write_other {ds : List Device} (hp : ds.all Device.plain = true)
    (hc : ds.all Device.canonical = true) {a b : Word} (hne : b ≠ a) (v : Byte) (ro : Bool) :
    (Bus.read (Bus.write ds a v) b ro).1 = (Bus.read ds b ro).1 := by
  induction ds with
  | nil => rfl
  | cons d ds ih =>
    simp only [List.all_cons, Bool.and_eq_true] at hp hc
    unfold Bus.write
    split
    · have hcfg := Device.handlesRead_of_config (Device.write_config d a v) b
      simp only [Bus.read, hcfg]
      split
      · simp [Device.read_write hp.1 hc.1, hne]
      · rfl
    · simp only [Bus.read]
      split
      · rfl
      · exact ih hp.2 hc.2

/-- Whether a configuration is well formed depends on the ranges and the flags alone. -/
theorem Bus.wellFormed_of_config {ds es : List Device} (h : ds.map Device.config = es.map Device.config) :
    Bus.wellFormed ds = Bus.wellFormed es := by
  have key : ∀ l : List Device, Bus.wellFormed l
      = ((l.map Device.config).all (fun c => decide (c.1.toNat ≤ c.2.1.toNat))
        && (l.map Device.config).any (·.2.2.1) && (l.map Device.config).any (·.2.2.2)) := by
    intro l
    rw [List.all_map, List.any_map, List.any_map]
    rfl
  rw [key, key, h]

end Sys2Proof.Machine
end

