-- ==== Sys2Proof/Laws/Flags.lean ====
section
/-! SUPPORT. The flags of the status register: a written flag reads as written, every other flag is kept. -/

namespace Sys2Proof.Machine

theorem Flag.mask_bit (f g : Flag) : f.mask.getLsbD g.pos = decide (g = f) := by
  cases f <;> cases g <;> decide

theorem Flag.pos_lt (f : Flag) : f.pos < 8 := by cases f <;> decide

@[simp] theorem getFlag_putFlag (p : Byte) (f g : Flag) (v : Bool) :
    getFlag (putFlag p f v) g = if g = f then v else getFlag p g := by
  have hg := Flag.pos_lt g
  cases v <;> by_cases h : g = f <;>
    simp only [getFlag, putFlag, if_true, if_false, Bool.false_eq_true, BitVec.getLsbD_or, BitVec.getLsbD_and,
      BitVec.getLsbD_not, Flag.mask_bit, h, hg, decide_true, decide_false, Bool.not_true, Bool.not_false,
      Bool.and_false, Bool.and_true, Bool.or_false, Bool.or_true]

@[simp] theorem State.flag_setFlag (s : State) (f g : Flag) (v : Bool) :
    (s.setFlag f v).flag g = if g = f then v else s.flag g := by
  simp [State.flag]

/-- A status byte is its eight flags. -/
theorem byte_ext_of_flags {p q : Byte} (h : ∀ f, getFlag p f = getFlag q f) : p = q := by
  apply BitVec.eq_of_getLsbD_eq
  intro i hi
  have hc := h .c
  have hz := h .z
  have hi' := h .i
  have hd := h .d
  have hb := h .b
  have hu := h .u
  have hv := h .v
  have hn := h .n
  simp only [getFlag, Flag.pos] at hc hz hi' hd hb hu hv hn
  interval_cases i <;> assumption

end Sys2Proof.Machine
end

