-- ==== Sys2Proof/Laws/Operands.lean ====
section
/-! SUPPORT. What the shared operations can do: the addressing routines and fetch(), the stack, the vectors,
the entry to a handler and the return from one. -/

namespace Sys2Proof

open Sys2Proof.Machine

/-! ## The addressing routines write `fetched`, `addrAbs`, `addrRel` and, by their reads, the devices -/

@[simp] theorem Operand.resolve_a (o : Operand) (s : State) : (o.resolve s).1.a = s.a := by
  cases o <;> rfl

@[simp] theorem Operand.resolve_x (o : Operand) (s : State) : (o.resolve s).1.x = s.x := by
  cases o <;> rfl

@[simp] theorem Operand.resolve_y (o : Operand) (s : State) : (o.resolve s).1.y = s.y := by
  cases o <;> rfl

@[simp] theorem Operand.resolve_sp (o : Operand) (s : State) : (o.resolve s).1.sp = s.sp := by
  cases o <;> rfl

@[simp] theorem Operand.resolve_pc (o : Operand) (s : State) : (o.resolve s).1.pc = s.pc := by
  cases o <;> rfl

@[simp] theorem Operand.resolve_p (o : Operand) (s : State) : (o.resolve s).1.p = s.p := by
  cases o <;> rfl

@[simp] theorem Operand.resolve_cycles (o : Operand) (s : State) : (o.resolve s).1.cycles = s.cycles := by
  cases o <;> rfl

@[simp] theorem Operand.resolve_totalCycles (o : Operand) (s : State) : (o.resolve s).1.totalCycles = s.totalCycles := by
  cases o <;> rfl

@[simp] theorem Operand.resolve_opcode (o : Operand) (s : State) : (o.resolve s).1.opcode = s.opcode := by
  cases o <;> rfl

@[simp] theorem Operand.resolve_temp (o : Operand) (s : State) : (o.resolve s).1.temp = s.temp := by
  cases o <;> rfl

@[simp] theorem Operand.resolve_resetDone (o : Operand) (s : State) : (o.resolve s).1.resetDone = s.resetDone := by
  cases o <;> rfl

@[simp] theorem Operand.resolve_params (o : Operand) (s : State) : (o.resolve s).1.params = s.params := by
  cases o <;> rfl

@[simp] theorem Operand.resolve_hostCommands (o : Operand) (s : State) : (o.resolve s).1.hostCommands = s.hostCommands := by
  cases o <;> rfl

/-- The routine never looks at the cycle counter. -/
theorem Operand.resolve_with_cycles (o : Operand) (s : State) (n : Nat) :
    o.resolve { s with cycles := n } = ({ (o.resolve s).1 with cycles := n }, (o.resolve s).2) := by
  cases o <;> rfl

theorem Operand.resolve_busConfig (o : Operand) (s : State) :
    (o.resolve s).1.busConfig = s.busConfig := by
  cases o <;> simp [Operand.resolve, State.indexed, State.readPointer, State.busConfig, Bus.read_config]

theorem Operand.resolve_plain (o : Operand) {s : State} (h : s.plain = true) :
    (o.resolve s).1.devices = s.devices := by
  cases o <;> simp [Operand.resolve, State.indexed, State.readPointer, Bus.read_plain h]

theorem Operand.resolve_canonical (o : Operand) {s : State} (h : s.canonical = true) :
    (o.resolve s).1.canonical = true := by
  cases o <;> first | exact h | exact Bus.read_canonical (Bus.read_canonical h _ _) _ _

end Sys2Proof

namespace Sys2Proof.Machine

/-! ## fetch() writes `fetched` and, by its read, the devices -/

@[simp] theorem State.fetchOperand_a (s : State) (o : Operand) : (s.fetchOperand o).2.a = s.a := by
  cases o <;> rfl

@[simp] theorem State.fetchOperand_x (s : State) (o : Operand) : (s.fetchOperand o).2.x = s.x := by
  cases o <;> rfl

@[simp] theorem State.fetchOperand_y (s : State) (o : Operand) : (s.fetchOperand o).2.y = s.y := by
  cases o <;> rfl

@[simp] theorem State.fetchOperand_sp (s : State) (o : Operand) : (s.fetchOperand o).2.sp = s.sp := by
  cases o <;> rfl

@[simp] theorem State.fetchOperand_pc (s : State) (o : Operand) : (s.fetchOperand o).2.pc = s.pc := by
  cases o <;> rfl

@[simp] theorem State.fetchOperand_p (s : State) (o : Operand) : (s.fetchOperand o).2.p = s.p := by
  cases o <;> rfl

@[simp] theorem State.fetchOperand_cycles (s : State) (o : Operand) : (s.fetchOperand o).2.cycles = s.cycles := by
  cases o <;> rfl

@[simp] theorem State.fetchOperand_totalCycles (s : State) (o : Operand) : (s.fetchOperand o).2.totalCycles = s.totalCycles := by
  cases o <;> rfl

@[simp] theorem State.fetchOperand_opcode (s : State) (o : Operand) : (s.fetchOperand o).2.opcode = s.opcode := by
  cases o <;> rfl

@[simp] theorem State.fetchOperand_temp (s : State) (o : Operand) : (s.fetchOperand o).2.temp = s.temp := by
  cases o <;> rfl

@[simp] theorem State.fetchOperand_resetDone (s : State) (o : Operand) : (s.fetchOperand o).2.resetDone = s.resetDone := by
  cases o <;> rfl

@[simp] theorem State.fetchOperand_params (s : State) (o : Operand) : (s.fetchOperand o).2.params = s.params := by
  cases o <;> rfl

@[simp] theorem State.fetchOperand_hostCommands (s : State) (o : Operand) : (s.fetchOperand o).2.hostCommands = s.hostCommands := by
  cases o <;> rfl

@[simp] theorem State.fetchOperand_addrAbs (s : State) (o : Operand) : (s.fetchOperand o).2.addrAbs = s.addrAbs := by
  cases o <;> rfl

@[simp] theorem State.fetchOperand_addrRel (s : State) (o : Operand) : (s.fetchOperand o).2.addrRel = s.addrRel := by
  cases o <;> rfl

/-- fetch() never looks at the cycle counter. -/
theorem State.fetchOperand_with_cycles (s : State) (o : Operand) (n : Nat) :
    State.fetchOperand { s with cycles := n } o = ((s.fetchOperand o).1, { (s.fetchOperand o).2 with cycles := n }) := by
  cases o <;> rfl

theorem State.fetchOperand_busConfig (s : State) (o : Operand) :
    (s.fetchOperand o).2.busConfig = s.busConfig := by
  cases o <;> simp [State.fetchOperand, State.busConfig, Bus.read_config]

theorem State.fetchOperand_plain {s : State} (o : Operand) (h : s.plain = true) :
    (s.fetchOperand o).2.devices = s.devices := by
  cases o <;> simp [State.fetchOperand, Bus.read_plain h]

theorem State.fetchOperand_canonical {s : State} (o : Operand) (h : s.canonical = true) :
    (s.fetchOperand o).2.canonical = true := by
  cases o <;> simp only [State.fetchOperand] <;> first | exact h | exact Bus.read_canonical h _ _

/-! ## The bus through the state -/

theorem State.memWrite_busConfig (s : State) (a : Word) (v : Byte) : (s.memWrite a v).busConfig = s.busConfig := by
  simp [State.busConfig, Bus.write_config]

theorem State.memWrite_plain (s : State) (a : Word) (v : Byte) : (s.memWrite a v).plain = s.plain := by
  simp [State.plain, Bus.write_plain]

theorem State.memWrite_canonical {s : State} (h : s.canonical = true) (a : Word) (v : Byte) :
    (s.memWrite a v).canonical = true := Bus.write_canonical h a v

/-- On plain memory a read gives what the host sees there and changes nothing. -/
theorem State.memRead_plain {s : State} (h : s.plain = true) (a : Word) : s.memRead a = (s.peek a, s) := by
  simp [State.memRead, State.peek, Bus.read_plain h, Bus.read_byte_plain h a false true]

/-- A write to plain canonical memories leaves every other byte. -/
theorem State.peek_memWrite_other {s : State} (hp : s.plain = true) (hc : s.canonical = true) {a b : Word}
    (h : b ≠ a) (v : Byte) : (s.memWrite a v).peek b = s.peek b :=
  Bus.read_write_other hp hc h v true

theorem State.peek_congr {s t : State} (h : t.devices = s.devices) (a : Word) : t.peek a = s.peek a := by
  simp [State.peek, h]

/-! ## RAM over the whole space -/

theorem State.onRam_plain {s : State} {cells : Memory} (h : s.onRam cells) : s.plain = true := by
  simp [State.plain, h.1, Device.plain]

theorem State.onRam_canonical {s : State} {cells : Memory} (h : s.onRam cells) : s.canonical = true := by
  simp [State.canonical, h.1, Device.canonical, h.2]

theorem ram_covers (cells : Memory) (a : Word) :
    Device.covers { Device.ram with store := .memory cells } a = true := by
  have := a.isLt
  simp [Device.covers, Device.ram]
  omega

theorem State.onRam_peek {s : State} {cells : Memory} (h : s.onRam cells) (a : Word) :
    s.peek a = Memory.read cells a.toNat := by
  simp [State.peek, h.1, Bus.read, Device.handlesRead, ram_covers]
  simp [Device.ram, Device.read]

theorem State.onRam_memWrite {s : State} {cells : Memory} (h : s.onRam cells) (a : Word) (v : Byte) :
    (s.memWrite a v).onRam (Memory.write cells a.toNat v) := by
  refine ⟨?_, Memory.wf_write h.2 a v⟩
  simp [h.1, Bus.write, Device.handlesWrite, ram_covers]
  simp [Device.ram, Device.write]

theorem State.onRam_congr {s t : State} {cells : Memory} (h : s.onRam cells) (ht : t.devices = s.devices) :
    t.onRam cells := ⟨ht.trans h.1, h.2⟩

/-- On RAM a byte reads as last written. -/
theorem State.onRam_peek_memWrite {s : State} {cells : Memory} (h : s.onRam cells) (a b : Word) (v : Byte) :
    (s.memWrite a v).peek b = if b = a then v else s.peek b := by
  rw [State.onRam_peek (State.onRam_memWrite h a v), State.onRam_peek h, Memory.read_write_from h.2]
  simp [BitVec.toNat_inj]

end Sys2Proof.Machine
end

