-- ==== Sys2Proof/Laws/Params.lean ====
section
/-! SUPPORT. The parameters: every BRK_MODE and every BASE_CYCLES is some `Params`, and the range of the
default counts. -/

namespace Sys2Proof

@[simp] theorem Params.of_brkMode (m : BrkMode) (f : Byte → Nat) : (Params.of m f).brkMode = m := rfl

/-- The counts a machine is asked for are the counts it has. -/
@[simp] theorem Params.of_base (m : BrkMode) (f : Byte → Nat) (op : Byte) : (Params.of m f).base op = f op := by
  simp only [Params.base, Params.of, Vector.getElem_ofFn]
  congr 1
  bv_omega

/-- Two parameter records are equal when they give the same BRK_MODE and the same counts. -/
theorem Params.ext_base {p q : Params} (hm : p.brkMode = q.brkMode) (hb : ∀ op, p.base op = q.base op) :
    p = q := by
  obtain ⟨m, t⟩ := p
  obtain ⟨n, u⟩ := q
  obtain rfl : m = n := hm
  congr 1
  ext i hi j hj
  have h := hb (BitVec.ofNat 8 (i * 16 + j))
  simp only [Params.base, BitVec.toNat_ofNat] at h
  have h1 : (i * 16 + j) % 2 ^ 8 / 16 = i := by omega
  have h2 : (i * 16 + j) % 2 ^ 8 % 16 = j := by omega
  simpa only [h1, h2] using h

end Sys2Proof

namespace Sys2Proof.Machine

theorem baseCycles_range (op : Byte) : 2 ≤ baseCycles op ∧ baseCycles op ≤ 8 := by
  revert op
  decide

/-- A machine at the default parameters has the map's counts. -/
theorem State.baseCycles_default {s : State} (h : s.params = defaultParams) (op : Byte) :
    s.baseCycles op = Sys2Proof.Machine.baseCycles op := by
  rw [State.baseCycles, h]
  rfl

end Sys2Proof.Machine
end

