-- ==== Sys2Proof/Laws/Ops.lean ====
section
/-! SUPPORT. One equation for each shared operation over several bus accesses: the whole state it gives, as
one update of the state it starts from, with the bus accesses in their order. -/

namespace Sys2Proof.Machine

theorem Byte.sub_one_sub_one (b : Byte) : b - 1 - 1 = b - 2 := by bv_omega

theorem Byte.add_one_add_one (b : Byte) : b + 1 + 1 = b + 2 := by bv_omega

theorem Byte.sub_two_sub_one (b : Byte) : b - 2 - 1 = b - 3 := by bv_omega

theorem Byte.add_one_add_one_add_one (b : Byte) : b + 1 + 1 + 1 = b + 3 := by bv_omega

theorem Byte.add_one_add_two (b : Byte) : b + 1 + 2 = b + 3 := by bv_omega

/-! ## The stack and the vectors -/

theorem State.push_eq (s : State) (v : Byte) :
    s.push v = { s with sp := s.sp - 1, devices := Bus.write s.devices (stackAddr s.sp) v } := rfl

theorem State.pull_eq (s : State) :
    s.pull = ((Bus.read s.devices (stackAddr (s.sp + 1)) false).1,
      { s with sp := s.sp + 1, devices := (Bus.read s.devices (stackAddr (s.sp + 1)) false).2 }) := rfl

theorem State.pushWord_eq (s : State) (w : Word) :
    s.pushWord w = { s with
      sp := s.sp - 2,
      devices := Bus.write (Bus.write s.devices (stackAddr s.sp) (hi8 w)) (stackAddr (s.sp - 1)) (lo8 w) } := by
  simp only [State.pushWord, State.push_eq, Byte.sub_one_sub_one]

theorem State.pullWord_eq (s : State) :
    s.pullWord =
      (let lo := Bus.read s.devices (stackAddr (s.sp + 1)) false
       let hi := Bus.read lo.2 (stackAddr (s.sp + 2)) false
       (word hi.1 lo.1, { s with sp := s.sp + 2, devices := hi.2 })) := by
  simp only [State.pullWord, State.pull_eq, Byte.add_one_add_one]

theorem State.readVec_eq (s : State) (a : Word) :
    s.readVec a =
      (let lo := Bus.read s.devices a false
       let hi := Bus.read lo.2 (a + 1) false
       (word hi.1 lo.1, { s with devices := hi.2 })) := rfl

/-! ## Fetching -/

theorem State.readPc_eq (s : State) :
    s.readPc = ((Bus.read s.devices s.pc false).1,
      { s with pc := s.pc + 1, devices := (Bus.read s.devices s.pc false).2 }) := rfl

/-- The opcode's read, and everything else the clock does before the addressing routine. -/
theorem State.fetchOpcode_eq (s : State) :
    s.fetchOpcode = ((Bus.read s.devices s.pc false).1,
      { s with
        opcode := (Bus.read s.devices s.pc false).1, pc := s.pc + 1, p := putFlag s.p .u true,
        devices := (Bus.read s.devices s.pc false).2 }) := rfl

/-! ## Handlers -/

/-- The devices after the three pushes that enter a handler: PCH, PCL, status. -/
def devicesAfterEntry (s : State) (stacked : Byte) : List Device :=
  Bus.write
    (Bus.write (Bus.write s.devices (stackAddr s.sp) (hi8 s.pc)) (stackAddr (s.sp - 1)) (lo8 s.pc))
    (stackAddr (s.sp - 2)) stacked

theorem State.enterHandler_eq (s : State) (stacked live : Byte) (vector : Word) :
    s.enterHandler stacked live vector =
      (let lo := Bus.read (devicesAfterEntry s stacked) vector false
       let hi := Bus.read lo.2 (vector + 1) false
       { s with sp := s.sp - 3, p := live, pc := word hi.1 lo.1, devices := hi.2 }) := by
  simp only [State.enterHandler, State.pushWord_eq, State.push_eq, State.readVec_eq, Byte.sub_two_sub_one,
    devicesAfterEntry]

theorem State.returnFromHandler_eq (s : State) :
    s.returnFromHandler =
      (let p := Bus.read s.devices (stackAddr (s.sp + 1)) false
       let lo := Bus.read p.2 (stackAddr (s.sp + 2)) false
       let hi := Bus.read lo.2 (stackAddr (s.sp + 3)) false
       { s with
         sp := s.sp + 3, p := putFlag (putFlag p.1 .b false) .u false, pc := word hi.1 lo.1,
         devices := hi.2 }) := by
  simp only [State.returnFromHandler, State.pull_eq, State.pullWord_eq, Byte.add_one_add_one,
    Byte.add_one_add_two]

/-! ## Running an operation -/

/-- An operation after its operand's routine, the cycle counter being the routine's business no more. -/
theorem runOp_eq (op : Byte) (o : Operand) (f : Operation) (s : State) :
    runOp op o f s =
      (let t := f o { (o.resolve s).1 with cycles := s.baseCycles op }
       { t.1 with cycles := t.1.cycles + bit (o.crosses s && t.2) }) := by
  simp only [runOp, Operand.resolve_with_cycles, Operand.crosses]

/-- fetch() after the operand's routine gives M and the devices after every read of both. -/
theorem fetchOperand_resolve (o : Operand) (s : State) (n : Nat) :
    State.fetchOperand { (o.resolve s).1 with cycles := n } o
      = (o.value s, { ((o.resolve s).1.fetchOperand o).2 with cycles := n }) := by
  rw [State.fetchOperand_with_cycles, Operand.value]

end Sys2Proof.Machine
end

