-- ==== Sys2Proof/Laws/Exec.lean ====
section
/-! SUPPORT. Every instruction as one operand and one operation: the one equation through which a statement
about all instructions reaches `exec`. -/

namespace Sys2Proof

open Sys2Proof.Machine

/-- The operation routine of an instruction. -/
def Instr.operation (i : Instr) : Operation :=
  match i.mnemonic with
  | .lda => opLda
  | .ldx => opLdx
  | .ldy => opLdy
  | .sta => opSta
  | .stx => opStx
  | .sty => opSty
  | .tax => opTax
  | .tay => opTay
  | .tsx => opTsx
  | .txa => opTxa
  | .txs => opTxs
  | .tya => opTya
  | .adc => opAdc
  | .sbc => opSbc
  | .and => opAnd
  | .ora => opOra
  | .eor => opEor
  | .bit => opBit
  | .cmp => opCmp
  | .cpx => opCpx
  | .cpy => opCpy
  | .inc => opInc
  | .dec => opDec
  | .inx => opInx
  | .iny => opIny
  | .dex => opDex
  | .dey => opDey
  | .asl => opAsl
  | .lsr => opLsr
  | .rol => opRol
  | .ror => opRor
  | .bcc => opBcc
  | .bcs => opBcs
  | .beq => opBeq
  | .bmi => opBmi
  | .bne => opBne
  | .bpl => opBpl
  | .bvc => opBvc
  | .bvs => opBvs
  | .jmp => opJmp
  | .jsr => opJsr
  | .rts => opRts
  | .pha => opPha
  | .php => opPhp
  | .pla => opPla
  | .plp => opPlp
  | .clc => opClc
  | .cld => opCld
  | .cli => opCli
  | .clv => opClv
  | .sec => opSec
  | .sed => opSed
  | .sei => opSei
  | .nop => opNop
  | .brk => opBrk
  | .rti => opRti
  | .xxx => noOperation i.opcode

/-- BRK_MODE is BRK's alone: every other instruction has one operand (30_encoding.md R107). -/
theorem Instr.operandWith_eq {i : Instr} (m : BrkMode) (h : i.mnemonic ≠ .brk) : i.operandWith m = i.operand := by
  cases i <;> first | rfl | exact absurd rfl h

end Sys2Proof

namespace Sys2Proof.Machine

/-- Every instruction runs its operand's routine and its operation, and answers a next state. -/
theorem exec_eq_runOp (i : Instr) (s : State) :
    exec i s = .next (runOp i.opcode (i.operandWith s.params.brkMode) i.operation s) := by
  cases i <;> rfl

end Sys2Proof.Machine
end

