-- ==== Sys2Proof/Laws/PerInstr.lean ====
section
/-! SUPPORT. A property of every instruction as syntax, one lemma per constructor: an instruction never takes
fewer cycles than it has bytes. -/

namespace Sys2Proof.Laws.Cycles

open Sys2Proof Sys2Proof.Machine

/-- The base cycle count of an instruction in the opcode map is from 2 to 8 and, in both values of BRK_MODE, at least
its length in bytes, each of which is read or skipped in its own right (spec 30_encoding.md R100, R102, R107). -/
def Statement (i : Instr) : Prop :=
  (∀ m : BrkMode, i.lengthWith m ≤ baseCycles i.opcode) ∧ 2 ≤ baseCycles i.opcode ∧ baseCycles i.opcode ≤ 8

theorem ldaImm (imm : Byte) : Statement (.ldaImm imm) :=
  ⟨fun _ => (of_decide_eq_true rfl : 2 ≤ baseCycles 0xA9), baseCycles_range _⟩
theorem ldaZp0 (zp : Byte) : Statement (.ldaZp0 zp) :=
  ⟨fun _ => (of_decide_eq_true rfl : 2 ≤ baseCycles 0xA5), baseCycles_range _⟩
theorem ldaZpx (zp : Byte) : Statement (.ldaZpx zp) :=
  ⟨fun _ => (of_decide_eq_true rfl : 2 ≤ baseCycles 0xB5), baseCycles_range _⟩
theorem ldaAbs (addr : Word) : Statement (.ldaAbs addr) :=
  ⟨fun _ => (of_decide_eq_true rfl : 3 ≤ baseCycles 0xAD), baseCycles_range _⟩
theorem ldaAbx (addr : Word) : Statement (.ldaAbx addr) :=
  ⟨fun _ => (of_decide_eq_true rfl : 3 ≤ baseCycles 0xBD), baseCycles_range _⟩
theorem ldaAby (addr : Word) : Statement (.ldaAby addr) :=
  ⟨fun _ => (of_decide_eq_true rfl : 3 ≤ baseCycles 0xB9), baseCycles_range _⟩
theorem ldaIzx (zp : Byte) : Statement (.ldaIzx zp) :=
  ⟨fun _ => (of_decide_eq_true rfl : 2 ≤ baseCycles 0xA1), baseCycles_range _⟩
theorem ldaIzy (zp : Byte) : Statement (.ldaIzy zp) :=
  ⟨fun _ => (of_decide_eq_true rfl : 2 ≤ baseCycles 0xB1), baseCycles_range _⟩
theorem ldxImm (imm : Byte) : Statement (.ldxImm imm) :=
  ⟨fun _ => (of_decide_eq_true rfl : 2 ≤ baseCycles 0xA2), baseCycles_range _⟩
theorem ldxZp0 (zp : Byte) : Statement (.ldxZp0 zp) :=
  ⟨fun _ => (of_decide_eq_true rfl : 2 ≤ baseCycles 0xA6), baseCycles_range _⟩
theorem ldxZpy (zp : Byte) : Statement (.ldxZpy zp) :=
  ⟨fun _ => (of_decide_eq_true rfl : 2 ≤ baseCycles 0xB6), baseCycles_range _⟩
theorem ldxAbs (addr : Word) : Statement (.ldxAbs addr) :=
  ⟨fun _ => (of_decide_eq_true rfl : 3 ≤ baseCycles 0xAE), baseCycles_range _⟩
theorem ldxAby (addr : Word) : Statement (.ldxAby addr) :=
  ⟨fun _ => (of_decide_eq_true rfl : 3 ≤ baseCycles 0xBE), baseCycles_range _⟩
theorem ldyImm (imm : Byte) : Statement (.ldyImm imm) :=
  ⟨fun _ => (of_decide_eq_true rfl : 2 ≤ baseCycles 0xA0), baseCycles_range _⟩
theorem ldyZp0 (zp : Byte) : Statement (.ldyZp0 zp) :=
  ⟨fun _ => (of_decide_eq_true rfl : 2 ≤ baseCycles 0xA4), baseCycles_range _⟩
theorem ldyZpx (zp : Byte) : Statement (.ldyZpx zp) :=
  ⟨fun _ => (of_decide_eq_true rfl : 2 ≤ baseCycles 0xB4), baseCycles_range _⟩
theorem ldyAbs (addr : Word) : Statement (.ldyAbs addr) :=
  ⟨fun _ => (of_decide_eq_true rfl : 3 ≤ baseCycles 0xAC), baseCycles_range _⟩
theorem ldyAbx (addr : Word) : Statement (.ldyAbx addr) :=
  ⟨fun _ => (of_decide_eq_true rfl : 3 ≤ baseCycles 0xBC), baseCycles_range _⟩
theorem staZp0 (zp : Byte) : Statement (.staZp0 zp) :=
  ⟨fun _ => (of_decide_eq_true rfl : 2 ≤ baseCycles 0x85), baseCycles_range _⟩
theorem staZpx (zp : Byte) : Statement (.staZpx zp) :=
  ⟨fun _ => (of_decide_eq_true rfl : 2 ≤ baseCycles 0x95), baseCycles_range _⟩
theorem staAbs (addr : Word) : Statement (.staAbs addr) :=
  ⟨fun _ => (of_decide_eq_true rfl : 3 ≤ baseCycles 0x8D), baseCycles_range _⟩
theorem staAbx (addr : Word) : Statement (.staAbx addr) :=
  ⟨fun _ => (of_decide_eq_true rfl : 3 ≤ baseCycles 0x9D), baseCycles_range _⟩
theorem staAby (addr : Word) : Statement (.staAby addr) :=
  ⟨fun _ => (of_decide_eq_true rfl : 3 ≤ baseCycles 0x99), baseCycles_range _⟩
theorem staIzx (zp : Byte) : Statement (.staIzx zp) :=
  ⟨fun _ => (of_decide_eq_true rfl : 2 ≤ baseCycles 0x81), baseCycles_range _⟩
theorem staIzy (zp : Byte) : Statement (.staIzy zp) :=
  ⟨fun _ => (of_decide_eq_true rfl : 2 ≤ baseCycles 0x91), baseCycles_range _⟩
theorem stxZp0 (zp : Byte) : Statement (.stxZp0 zp) :=
  ⟨fun _ => (of_decide_eq_true rfl : 2 ≤ baseCycles 0x86), baseCycles_range _⟩
theorem stxZpy (zp : Byte) : Statement (.stxZpy zp) :=
  ⟨fun _ => (of_decide_eq_true rfl : 2 ≤ baseCycles 0x96), baseCycles_range _⟩
theorem stxAbs (addr : Word) : Statement (.stxAbs addr) :=
  ⟨fun _ => (of_decide_eq_true rfl : 3 ≤ baseCycles 0x8E), baseCycles_range _⟩
theorem styZp0 (zp : Byte) : Statement (.styZp0 zp) :=
  ⟨fun _ => (of_decide_eq_true rfl : 2 ≤ baseCycles 0x84), baseCycles_range _⟩
theorem styZpx (zp : Byte) : Statement (.styZpx zp) :=
  ⟨fun _ => (of_decide_eq_true rfl : 2 ≤ baseCycles 0x94), baseCycles_range _⟩
theorem styAbs (addr : Word) : Statement (.styAbs addr) :=
  ⟨fun _ => (of_decide_eq_true rfl : 3 ≤ baseCycles 0x8C), baseCycles_range _⟩
theorem tax : Statement .tax :=
  ⟨fun _ => (of_decide_eq_true rfl : 1 ≤ baseCycles 0xAA), baseCycles_range _⟩
theorem tay : Statement .tay :=
  ⟨fun _ => (of_decide_eq_true rfl : 1 ≤ baseCycles 0xA8), baseCycles_range _⟩
theorem tsx : Statement .tsx :=
  ⟨fun _ => (of_decide_eq_true rfl : 1 ≤ baseCycles 0xBA), baseCycles_range _⟩
theorem txa : Statement .txa :=
  ⟨fun _ => (of_decide_eq_true rfl : 1 ≤ baseCycles 0x8A), baseCycles_range _⟩
theorem txs : Statement .txs :=
  ⟨fun _ => (of_decide_eq_true rfl : 1 ≤ baseCycles 0x9A), baseCycles_range _⟩
theorem tya : Statement .tya :=
  ⟨fun _ => (of_decide_eq_true rfl : 1 ≤ baseCycles 0x98), baseCycles_range _⟩
theorem adcImm (imm : Byte) : Statement (.adcImm imm) :=
  ⟨fun _ => (of_decide_eq_true rfl : 2 ≤ baseCycles 0x69), baseCycles_range _⟩
theorem adcZp0 (zp : Byte) : Statement (.adcZp0 zp) :=
  ⟨fun _ => (of_decide_eq_true rfl : 2 ≤ baseCycles 0x65), baseCycles_range _⟩
theorem adcZpx (zp : Byte) : Statement (.adcZpx zp) :=
  ⟨fun _ => (of_decide_eq_true rfl : 2 ≤ baseCycles 0x75), baseCycles_range _⟩
theorem adcAbs (addr : Word) : Statement (.adcAbs addr) :=
  ⟨fun _ => (of_decide_eq_true rfl : 3 ≤ baseCycles 0x6D), baseCycles_range _⟩
theorem adcAbx (addr : Word) : Statement (.adcAbx addr) :=
  ⟨fun _ => (of_decide_eq_true rfl : 3 ≤ baseCycles 0x7D), baseCycles_range _⟩
theorem adcAby (addr : Word) : Statement (.adcAby addr) :=
  ⟨fun _ => (of_decide_eq_true rfl : 3 ≤ baseCycles 0x79), baseCycles_range _⟩
theorem adcIzx (zp : Byte) : Statement (.adcIzx zp) :=
  ⟨fun _ => (of_decide_eq_true rfl : 2 ≤ baseCycles 0x61), baseCycles_range _⟩
theorem adcIzy (zp : Byte) : Statement (.adcIzy zp) :=
  ⟨fun _ => (of_decide_eq_true rfl : 2 ≤ baseCycles 0x71), baseCycles_range _⟩
theorem sbcImm (imm : Byte) : Statement (.sbcImm imm) :=
  ⟨fun _ => (of_decide_eq_true rfl : 2 ≤ baseCycles 0xE9), baseCycles_range _⟩
theorem sbcZp0 (zp : Byte) : Statement (.sbcZp0 zp) :=
  ⟨fun _ => (of_decide_eq_true rfl : 2 ≤ baseCycles 0xE5), baseCycles_range _⟩
theorem sbcZpx (zp : Byte) : Statement (.sbcZpx zp) :=
  ⟨fun _ => (of_decide_eq_true rfl : 2 ≤ baseCycles 0xF5), baseCycles_range _⟩
theorem sbcAbs (addr : Word) : Statement (.sbcAbs addr) :=
  ⟨fun _ => (of_decide_eq_true rfl : 3 ≤ baseCycles 0xED), baseCycles_range _⟩
theorem sbcAbx (addr : Word) : Statement (.sbcAbx addr) :=
  ⟨fun _ => (of_decide_eq_true rfl : 3 ≤ baseCycles 0xFD), baseCycles_range _⟩
theorem sbcAby (addr : Word) : Statement (.sbcAby addr) :=
  ⟨fun _ => (of_decide_eq_true rfl : 3 ≤ baseCycles 0xF9), baseCycles_range _⟩
theorem sbcIzx (zp : Byte) : Statement (.sbcIzx zp) :=
  ⟨fun _ => (of_decide_eq_true rfl : 2 ≤ baseCycles 0xE1), baseCycles_range _⟩
theorem sbcIzy (zp : Byte) : Statement (.sbcIzy zp) :=
  ⟨fun _ => (of_decide_eq_true rfl : 2 ≤ baseCycles 0xF1), baseCycles_range _⟩
theorem andImm (imm : Byte) : Statement (.andImm imm) :=
  ⟨fun _ => (of_decide_eq_true rfl : 2 ≤ baseCycles 0x29), baseCycles_range _⟩
theorem andZp0 (zp : Byte) : Statement (.andZp0 zp) :=
  ⟨fun _ => (of_decide_eq_true rfl : 2 ≤ baseCycles 0x25), baseCycles_range _⟩
theorem andZpx (zp : Byte) : Statement (.andZpx zp) :=
  ⟨fun _ => (of_decide_eq_true rfl : 2 ≤ baseCycles 0x35), baseCycles_range _⟩
theorem andAbs (addr : Word) : Statement (.andAbs addr) :=
  ⟨fun _ => (of_decide_eq_true rfl : 3 ≤ baseCycles 0x2D), baseCycles_range _⟩
theorem andAbx (addr : Word) : Statement (.andAbx addr) :=
  ⟨fun _ => (of_decide_eq_true rfl : 3 ≤ baseCycles 0x3D), baseCycles_range _⟩
theorem andAby (addr : Word) : Statement (.andAby addr) :=
  ⟨fun _ => (of_decide_eq_true rfl : 3 ≤ baseCycles 0x39), baseCycles_range _⟩
theorem andIzx (zp : Byte) : Statement (.andIzx zp) :=
  ⟨fun _ => (of_decide_eq_true rfl : 2 ≤ baseCycles 0x21), baseCycles_range _⟩
theorem andIzy (zp : Byte) : Statement (.andIzy zp) :=
  ⟨fun _ => (of_decide_eq_true rfl : 2 ≤ baseCycles 0x31), baseCycles_range _⟩
theorem oraImm (imm : Byte) : Statement (.oraImm imm) :=
  ⟨fun _ => (of_decide_eq_true rfl : 2 ≤ baseCycles 0x09), baseCycles_range _⟩
theorem oraZp0 (zp : Byte) : Statement (.oraZp0 zp) :=
  ⟨fun _ => (of_decide_eq_true rfl : 2 ≤ baseCycles 0x05), baseCycles_range _⟩
theorem oraZpx (zp : Byte) : Statement (.oraZpx zp) :=
  ⟨fun _ => (of_decide_eq_true rfl : 2 ≤ baseCycles 0x15), baseCycles_range _⟩
theorem oraAbs (addr : Word) : Statement (.oraAbs addr) :=
  ⟨fun _ => (of_decide_eq_true rfl : 3 ≤ baseCycles 0x0D), baseCycles_range _⟩
theorem oraAbx (addr : Word) : Statement (.oraAbx addr) :=
  ⟨fun _ => (of_decide_eq_true rfl : 3 ≤ baseCycles 0x1D), baseCycles_range _⟩
theorem oraAby (addr : Word) : Statement (.oraAby addr) :=
  ⟨fun _ => (of_decide_eq_true rfl : 3 ≤ baseCycles 0x19), baseCycles_range _⟩
theorem oraIzx (zp : Byte) : Statement (.oraIzx zp) :=
  ⟨fun _ => (of_decide_eq_true rfl : 2 ≤ baseCycles 0x01), baseCycles_range _⟩
theorem oraIzy (zp : Byte) : Statement (.oraIzy zp) :=
  ⟨fun _ => (of_decide_eq_true rfl : 2 ≤ baseCycles 0x11), baseCycles_range _⟩
theorem eorImm (imm : Byte) : Statement (.eorImm imm) :=
  ⟨fun _ => (of_decide_eq_true rfl : 2 ≤ baseCycles 0x49), baseCycles_range _⟩
theorem eorZp0 (zp : Byte) : Statement (.eorZp0 zp) :=
  ⟨fun _ => (of_decide_eq_true rfl : 2 ≤ baseCycles 0x45), baseCycles_range _⟩
theorem eorZpx (zp : Byte) : Statement (.eorZpx zp) :=
  ⟨fun _ => (of_decide_eq_true rfl : 2 ≤ baseCycles 0x55), baseCycles_range _⟩
theorem eorAbs (addr : Word) : Statement (.eorAbs addr) :=
  ⟨fun _ => (of_decide_eq_true rfl : 3 ≤ baseCycles 0x4D), baseCycles_range _⟩
theorem eorAbx (addr : Word) : Statement (.eorAbx addr) :=
  ⟨fun _ => (of_decide_eq_true rfl : 3 ≤ baseCycles 0x5D), baseCycles_range _⟩
theorem eorAby (addr : Word) : Statement (.eorAby addr) :=
  ⟨fun _ => (of_decide_eq_true rfl : 3 ≤ baseCycles 0x59), baseCycles_range _⟩
theorem eorIzx (zp : Byte) : Statement (.eorIzx zp) :=
  ⟨fun _ => (of_decide_eq_true rfl : 2 ≤ baseCycles 0x41), baseCycles_range _⟩
theorem eorIzy (zp : Byte) : Statement (.eorIzy zp) :=
  ⟨fun _ => (of_decide_eq_true rfl : 2 ≤ baseCycles 0x51), baseCycles_range _⟩
theorem bitZp0 (zp : Byte) : Statement (.bitZp0 zp) :=
  ⟨fun _ => (of_decide_eq_true rfl : 2 ≤ baseCycles 0x24), baseCycles_range _⟩
theorem bitAbs (addr : Word) : Statement (.bitAbs addr) :=
  ⟨fun _ => (of_decide_eq_true rfl : 3 ≤ baseCycles 0x2C), baseCycles_range _⟩
theorem cmpImm (imm : Byte) : Statement (.cmpImm imm) :=
  ⟨fun _ => (of_decide_eq_true rfl : 2 ≤ baseCycles 0xC9), baseCycles_range _⟩
theorem cmpZp0 (zp : Byte) : Statement (.cmpZp0 zp) :=
  ⟨fun _ => (of_decide_eq_true rfl : 2 ≤ baseCycles 0xC5), baseCycles_range _⟩
theorem cmpZpx (zp : Byte) : Statement (.cmpZpx zp) :=
  ⟨fun _ => (of_decide_eq_true rfl : 2 ≤ baseCycles 0xD5), baseCycles_range _⟩
theorem cmpAbs (addr : Word) : Statement (.cmpAbs addr) :=
  ⟨fun _ => (of_decide_eq_true rfl : 3 ≤ baseCycles 0xCD), baseCycles_range _⟩
theorem cmpAbx (addr : Word) : Statement (.cmpAbx addr) :=
  ⟨fun _ => (of_decide_eq_true rfl : 3 ≤ baseCycles 0xDD), baseCycles_range _⟩
theorem cmpAby (addr : Word) : Statement (.cmpAby addr) :=
  ⟨fun _ => (of_decide_eq_true rfl : 3 ≤ baseCycles 0xD9), baseCycles_range _⟩
theorem cmpIzx (zp : Byte) : Statement (.cmpIzx zp) :=
  ⟨fun _ => (of_decide_eq_true rfl : 2 ≤ baseCycles 0xC1), baseCycles_range _⟩
theorem cmpIzy (zp : Byte) : Statement (.cmpIzy zp) :=
  ⟨fun _ => (of_decide_eq_true rfl : 2 ≤ baseCycles 0xD1), baseCycles_range _⟩
theorem cpxImm (imm : Byte) : Statement (.cpxImm imm) :=
  ⟨fun _ => (of_decide_eq_true rfl : 2 ≤ baseCycles 0xE0), baseCycles_range _⟩
theorem cpxZp0 (zp : Byte) : Statement (.cpxZp0 zp) :=
  ⟨fun _ => (of_decide_eq_true rfl : 2 ≤ baseCycles 0xE4), baseCycles_range _⟩
theorem cpxAbs (addr : Word) : Statement (.cpxAbs addr) :=
  ⟨fun _ => (of_decide_eq_true rfl : 3 ≤ baseCycles 0xEC), baseCycles_range _⟩
theorem cpyImm (imm : Byte) : Statement (.cpyImm imm) :=
  ⟨fun _ => (of_decide_eq_true rfl : 2 ≤ baseCycles 0xC0), baseCycles_range _⟩
theorem cpyZp0 (zp : Byte) : Statement (.cpyZp0 zp) :=
  ⟨fun _ => (of_decide_eq_true rfl : 2 ≤ baseCycles 0xC4), baseCycles_range _⟩
theorem cpyAbs (addr : Word) : Statement (.cpyAbs addr) :=
  ⟨fun _ => (of_decide_eq_true rfl : 3 ≤ baseCycles 0xCC), baseCycles_range _⟩
theorem incZp0 (zp : Byte) : Statement (.incZp0 zp) :=
  ⟨fun _ => (of_decide_eq_true rfl : 2 ≤ baseCycles 0xE6), baseCycles_range _⟩
theorem incZpx (zp : Byte) : Statement (.incZpx zp) :=
  ⟨fun _ => (of_decide_eq_true rfl : 2 ≤ baseCycles 0xF6), baseCycles_range _⟩
theorem incAbs (addr : Word) : Statement (.incAbs addr) :=
  ⟨fun _ => (of_decide_eq_true rfl : 3 ≤ baseCycles 0xEE), baseCycles_range _⟩
theorem incAbx (addr : Word) : Statement (.incAbx addr) :=
  ⟨fun _ => (of_decide_eq_true rfl : 3 ≤ baseCycles 0xFE), baseCycles_range _⟩
theorem decZp0 (zp : Byte) : Statement (.decZp0 zp) :=
  ⟨fun _ => (of_decide_eq_true rfl : 2 ≤ baseCycles 0xC6), baseCycles_range _⟩
theorem decZpx (zp : Byte) : Statement (.decZpx zp) :=
  ⟨fun _ => (of_decide_eq_true rfl : 2 ≤ baseCycles 0xD6), baseCycles_range _⟩
theorem decAbs (addr : Word) : Statement (.decAbs addr) :=
  ⟨fun _ => (of_decide_eq_true rfl : 3 ≤ baseCycles 0xCE), baseCycles_range _⟩
theorem decAbx (addr : Word) : Statement (.decAbx addr) :=
  ⟨fun _ => (of_decide_eq_true rfl : 3 ≤ baseCycles 0xDE), baseCycles_range _⟩
theorem inx : Statement .inx :=
  ⟨fun _ => (of_decide_eq_true rfl : 1 ≤ baseCycles 0xE8), baseCycles_range _⟩
theorem iny : Statement .iny :=
  ⟨fun _ => (of_decide_eq_true rfl : 1 ≤ baseCycles 0xC8), baseCycles_range _⟩
theorem dex : Statement .dex :=
  ⟨fun _ => (of_decide_eq_true rfl : 1 ≤ baseCycles 0xCA), baseCycles_range _⟩
theorem dey : Statement .dey :=
  ⟨fun _ => (of_decide_eq_true rfl : 1 ≤ baseCycles 0x88), baseCycles_range _⟩
theorem aslZp0 (zp : Byte) : Statement (.aslZp0 zp) :=
  ⟨fun _ => (of_decide_eq_true rfl : 2 ≤ baseCycles 0x06), baseCycles_range _⟩
theorem aslZpx (zp : Byte) : Statement (.aslZpx zp) :=
  ⟨fun _ => (of_decide_eq_true rfl : 2 ≤ baseCycles 0x16), baseCycles_range _⟩
theorem aslAbs (addr : Word) : Statement (.aslAbs addr) :=
  ⟨fun _ => (of_decide_eq_true rfl : 3 ≤ baseCycles 0x0E), baseCycles_range _⟩
theorem aslAbx (addr : Word) : Statement (.aslAbx addr) :=
  ⟨fun _ => (of_decide_eq_true rfl : 3 ≤ baseCycles 0x1E), baseCycles_range _⟩
theorem aslImp : Statement .aslImp :=
  ⟨fun _ => (of_decide_eq_true rfl : 1 ≤ baseCycles 0x0A), baseCycles_range _⟩
theorem lsrZp0 (zp : Byte) : Statement (.lsrZp0 zp) :=
  ⟨fun _ => (of_decide_eq_true rfl : 2 ≤ baseCycles 0x46), baseCycles_range _⟩
theorem lsrZpx (zp : Byte) : Statement (.lsrZpx zp) :=
  ⟨fun _ => (of_decide_eq_true rfl : 2 ≤ baseCycles 0x56), baseCycles_range _⟩
theorem lsrAbs (addr : Word) : Statement (.lsrAbs addr) :=
  ⟨fun _ => (of_decide_eq_true rfl : 3 ≤ baseCycles 0x4E), baseCycles_range _⟩
theorem lsrAbx (addr : Word) : Statement (.lsrAbx addr) :=
  ⟨fun _ => (of_decide_eq_true rfl : 3 ≤ baseCycles 0x5E), baseCycles_range _⟩
theorem lsrImp : Statement .lsrImp :=
  ⟨fun _ => (of_decide_eq_true rfl : 1 ≤ baseCycles 0x4A), baseCycles_range _⟩
theorem rolZp0 (zp : Byte) : Statement (.rolZp0 zp) :=
  ⟨fun _ => (of_decide_eq_true rfl : 2 ≤ baseCycles 0x26), baseCycles_range _⟩
theorem rolZpx (zp : Byte) : Statement (.rolZpx zp) :=
  ⟨fun _ => (of_decide_eq_true rfl : 2 ≤ baseCycles 0x36), baseCycles_range _⟩
theorem rolAbs (addr : Word) : Statement (.rolAbs addr) :=
  ⟨fun _ => (of_decide_eq_true rfl : 3 ≤ baseCycles 0x2E), baseCycles_range _⟩
theorem rolAbx (addr : Word) : Statement (.rolAbx addr) :=
  ⟨fun _ => (of_decide_eq_true rfl : 3 ≤ baseCycles 0x3E), baseCycles_range _⟩
theorem rolImp : Statement .rolImp :=
  ⟨fun _ => (of_decide_eq_true rfl : 1 ≤ baseCycles 0x2A), baseCycles_range _⟩
theorem rorZp0 (zp : Byte) : Statement (.rorZp0 zp) :=
  ⟨fun _ => (of_decide_eq_true rfl : 2 ≤ baseCycles 0x66), baseCycles_range _⟩
theorem rorZpx (zp : Byte) : Statement (.rorZpx zp) :=
  ⟨fun _ => (of_decide_eq_true rfl : 2 ≤ baseCycles 0x76), baseCycles_range _⟩
theorem rorAbs (addr : Word) : Statement (.rorAbs addr) :=
  ⟨fun _ => (of_decide_eq_true rfl : 3 ≤ baseCycles 0x6E), baseCycles_range _⟩
theorem rorAbx (addr : Word) : Statement (.rorAbx addr) :=
  ⟨fun _ => (of_decide_eq_true rfl : 3 ≤ baseCycles 0x7E), baseCycles_range _⟩
theorem rorImp : Statement .rorImp :=
  ⟨fun _ => (of_decide_eq_true rfl : 1 ≤ baseCycles 0x6A), baseCycles_range _⟩
theorem bcc (rel : Byte) : Statement (.bcc rel) :=
  ⟨fun _ => (of_decide_eq_true rfl : 2 ≤ baseCycles 0x90), baseCycles_range _⟩
theorem bcs (rel : Byte) : Statement (.bcs rel) :=
  ⟨fun _ => (of_decide_eq_true rfl : 2 ≤ baseCycles 0xB0), baseCycles_range _⟩
theorem beq (rel : Byte) : Statement (.beq rel) :=
  ⟨fun _ => (of_decide_eq_true rfl : 2 ≤ baseCycles 0xF0), baseCycles_range _⟩
theorem bmi (rel : Byte) : Statement (.bmi rel) :=
  ⟨fun _ => (of_decide_eq_true rfl : 2 ≤ baseCycles 0x30), baseCycles_range _⟩
theorem bne (rel : Byte) : Statement (.bne rel) :=
  ⟨fun _ => (of_decide_eq_true rfl : 2 ≤ baseCycles 0xD0), baseCycles_range _⟩
theorem bpl (rel : Byte) : Statement (.bpl rel) :=
  ⟨fun _ => (of_decide_eq_true rfl : 2 ≤ baseCycles 0x10), baseCycles_range _⟩
theorem bvc (rel : Byte) : Statement (.bvc rel) :=
  ⟨fun _ => (of_decide_eq_true rfl : 2 ≤ baseCycles 0x50), baseCycles_range _⟩
theorem bvs (rel : Byte) : Statement (.bvs rel) :=
  ⟨fun _ => (of_decide_eq_true rfl : 2 ≤ baseCycles 0x70), baseCycles_range _⟩
theorem jmpAbs (addr : Word) : Statement (.jmpAbs addr) :=
  ⟨fun _ => (of_decide_eq_true rfl : 3 ≤ baseCycles 0x4C), baseCycles_range _⟩
theorem jmpInd (ptr : Word) : Statement (.jmpInd ptr) :=
  ⟨fun _ => (of_decide_eq_true rfl : 3 ≤ baseCycles 0x6C), baseCycles_range _⟩
theorem jsr (addr : Word) : Statement (.jsr addr) :=
  ⟨fun _ => (of_decide_eq_true rfl : 3 ≤ baseCycles 0x20), baseCycles_range _⟩
theorem rts : Statement .rts :=
  ⟨fun _ => (of_decide_eq_true rfl : 1 ≤ baseCycles 0x60), baseCycles_range _⟩
theorem pha : Statement .pha :=
  ⟨fun _ => (of_decide_eq_true rfl : 1 ≤ baseCycles 0x48), baseCycles_range _⟩
theorem php : Statement .php :=
  ⟨fun _ => (of_decide_eq_true rfl : 1 ≤ baseCycles 0x08), baseCycles_range _⟩
theorem pla : Statement .pla :=
  ⟨fun _ => (of_decide_eq_true rfl : 1 ≤ baseCycles 0x68), baseCycles_range _⟩
theorem plp : Statement .plp :=
  ⟨fun _ => (of_decide_eq_true rfl : 1 ≤ baseCycles 0x28), baseCycles_range _⟩
theorem clc : Statement .clc :=
  ⟨fun _ => (of_decide_eq_true rfl : 1 ≤ baseCycles 0x18), baseCycles_range _⟩
theorem cld : Statement .cld :=
  ⟨fun _ => (of_decide_eq_true rfl : 1 ≤ baseCycles 0xD8), baseCycles_range _⟩
theorem cli : Statement .cli :=
  ⟨fun _ => (of_decide_eq_true rfl : 1 ≤ baseCycles 0x58), baseCycles_range _⟩
theorem clv : Statement .clv :=
  ⟨fun _ => (of_decide_eq_true rfl : 1 ≤ baseCycles 0xB8), baseCycles_range _⟩
theorem sec : Statement .sec :=
  ⟨fun _ => (of_decide_eq_true rfl : 1 ≤ baseCycles 0x38), baseCycles_range _⟩
theorem sed : Statement .sed :=
  ⟨fun _ => (of_decide_eq_true rfl : 1 ≤ baseCycles 0xF8), baseCycles_range _⟩
theorem sei : Statement .sei :=
  ⟨fun _ => (of_decide_eq_true rfl : 1 ≤ baseCycles 0x78), baseCycles_range _⟩
theorem nop : Statement .nop :=
  ⟨fun _ => (of_decide_eq_true rfl : 1 ≤ baseCycles 0xEA), baseCycles_range _⟩
theorem brk : Statement .brk :=
  ⟨fun m => by cases m <;> decide, baseCycles_range _⟩
theorem rti : Statement .rti :=
  ⟨fun _ => (of_decide_eq_true rfl : 1 ≤ baseCycles 0x40), baseCycles_range _⟩
theorem xxx (op : Byte) : Statement (.xxx op) :=
  ⟨fun _ => Nat.le_of_lt (baseCycles_range op).1, (baseCycles_range op).1, (baseCycles_range op).2⟩

end Sys2Proof.Laws.Cycles
end

