-- ==== Sys2Proof/Tests/Slice0.lean ====
section
/-! SUPPORT. Tests: the opcode map against words written out from it, single steps against the vectors of
spec 95_test_vectors.md, and a witness for every statement that has hypotheses. -/

namespace Sys2Proof.Tests

open Sys2Proof.Machine

/-! ## Well-formedness -/

/-- 0xA9 is LDA's opcode byte, no undocumented one (30_encoding.md R104). -/
theorem test_wellFormed_refuses_documented_byte : (Instr.xxx 0xA9).wellFormed = false := by decide

/-- 0x00 is BRK's opcode byte. -/
theorem test_wellFormed_refuses_brk_byte : (Instr.xxx 0x00).wellFormed = false := by decide

theorem test_wellFormed_accepts : (Instr.xxx 0x02).wellFormed = true ∧ (Instr.xxx 0xFF).wellFormed = true
    ∧ (Instr.ldaAbs 0xFFFF).wellFormed = true := by decide

/-! ## Decoding: every documented cell of the opcode map (30_encoding.md R101, R102)

The operand bytes are 0x34, or 0x34 0x12: a two-byte operand is the address 0x1234. -/

/-- The bytes decode to the instruction and leave nothing. -/
abbrev Decodes (bs : List Byte) (i : Instr) : Prop := decode bs = .ok (i, [])

theorem test_decode_brk :
    Decodes [0x00, 0x34] .brk := by decide

theorem test_decode_ora :
    Decodes [0x01, 0x34] (.oraIzx 0x34) ∧ Decodes [0x05, 0x34] (.oraZp0 0x34)
    ∧ Decodes [0x09, 0x34] (.oraImm 0x34) ∧ Decodes [0x0D, 0x34, 0x12] (.oraAbs 0x1234)
    ∧ Decodes [0x11, 0x34] (.oraIzy 0x34) ∧ Decodes [0x15, 0x34] (.oraZpx 0x34)
    ∧ Decodes [0x19, 0x34, 0x12] (.oraAby 0x1234) ∧ Decodes [0x1D, 0x34, 0x12] (.oraAbx 0x1234) := by decide

theorem test_decode_asl :
    Decodes [0x06, 0x34] (.aslZp0 0x34) ∧ Decodes [0x0A] .aslImp
    ∧ Decodes [0x0E, 0x34, 0x12] (.aslAbs 0x1234) ∧ Decodes [0x16, 0x34] (.aslZpx 0x34)
    ∧ Decodes [0x1E, 0x34, 0x12] (.aslAbx 0x1234) := by decide

theorem test_decode_php :
    Decodes [0x08] .php := by decide

theorem test_decode_bpl :
    Decodes [0x10, 0x34] (.bpl 0x34) := by decide

theorem test_decode_clc :
    Decodes [0x18] .clc := by decide

theorem test_decode_jsr :
    Decodes [0x20, 0x34, 0x12] (.jsr 0x1234) := by decide

theorem test_decode_and :
    Decodes [0x21, 0x34] (.andIzx 0x34) ∧ Decodes [0x25, 0x34] (.andZp0 0x34)
    ∧ Decodes [0x29, 0x34] (.andImm 0x34) ∧ Decodes [0x2D, 0x34, 0x12] (.andAbs 0x1234)
    ∧ Decodes [0x31, 0x34] (.andIzy 0x34) ∧ Decodes [0x35, 0x34] (.andZpx 0x34)
    ∧ Decodes [0x39, 0x34, 0x12] (.andAby 0x1234) ∧ Decodes [0x3D, 0x34, 0x12] (.andAbx 0x1234) := by decide

theorem test_decode_bit :
    Decodes [0x24, 0x34] (.bitZp0 0x34) ∧ Decodes [0x2C, 0x34, 0x12] (.bitAbs 0x1234) := by decide

theorem test_decode_rol :
    Decodes [0x26, 0x34] (.rolZp0 0x34) ∧ Decodes [0x2A] .rolImp
    ∧ Decodes [0x2E, 0x34, 0x12] (.rolAbs 0x1234) ∧ Decodes [0x36, 0x34] (.rolZpx 0x34)
    ∧ Decodes [0x3E, 0x34, 0x12] (.rolAbx 0x1234) := by decide

theorem test_decode_plp :
    Decodes [0x28] .plp := by decide

theorem test_decode_bmi :
    Decodes [0x30, 0x34] (.bmi 0x34) := by decide

theorem test_decode_sec :
    Decodes [0x38] .sec := by decide

theorem test_decode_rti :
    Decodes [0x40] .rti := by decide

theorem test_decode_eor :
    Decodes [0x41, 0x34] (.eorIzx 0x34) ∧ Decodes [0x45, 0x34] (.eorZp0 0x34)
    ∧ Decodes [0x49, 0x34] (.eorImm 0x34) ∧ Decodes [0x4D, 0x34, 0x12] (.eorAbs 0x1234)
    ∧ Decodes [0x51, 0x34] (.eorIzy 0x34) ∧ Decodes [0x55, 0x34] (.eorZpx 0x34)
    ∧ Decodes [0x59, 0x34, 0x12] (.eorAby 0x1234) ∧ Decodes [0x5D, 0x34, 0x12] (.eorAbx 0x1234) := by decide

theorem test_decode_lsr :
    Decodes [0x46, 0x34] (.lsrZp0 0x34) ∧ Decodes [0x4A] .lsrImp
    ∧ Decodes [0x4E, 0x34, 0x12] (.lsrAbs 0x1234) ∧ Decodes [0x56, 0x34] (.lsrZpx 0x34)
    ∧ Decodes [0x5E, 0x34, 0x12] (.lsrAbx 0x1234) := by decide

theorem test_decode_pha :
    Decodes [0x48] .pha := by decide

theorem test_decode_jmp :
    Decodes [0x4C, 0x34, 0x12] (.jmpAbs 0x1234) ∧ Decodes [0x6C, 0x34, 0x12] (.jmpInd 0x1234) := by decide

theorem test_decode_bvc :
    Decodes [0x50, 0x34] (.bvc 0x34) := by decide

theorem test_decode_cli :
    Decodes [0x58] .cli := by decide

theorem test_decode_rts :
    Decodes [0x60] .rts := by decide

theorem test_decode_adc :
    Decodes [0x61, 0x34] (.adcIzx 0x34) ∧ Decodes [0x65, 0x34] (.adcZp0 0x34)
    ∧ Decodes [0x69, 0x34] (.adcImm 0x34) ∧ Decodes [0x6D, 0x34, 0x12] (.adcAbs 0x1234)
    ∧ Decodes [0x71, 0x34] (.adcIzy 0x34) ∧ Decodes [0x75, 0x34] (.adcZpx 0x34)
    ∧ Decodes [0x79, 0x34, 0x12] (.adcAby 0x1234) ∧ Decodes [0x7D, 0x34, 0x12] (.adcAbx 0x1234) := by decide

theorem test_decode_ror :
    Decodes [0x66, 0x34] (.rorZp0 0x34) ∧ Decodes [0x6A] .rorImp
    ∧ Decodes [0x6E, 0x34, 0x12] (.rorAbs 0x1234) ∧ Decodes [0x76, 0x34] (.rorZpx 0x34)
    ∧ Decodes [0x7E, 0x34, 0x12] (.rorAbx 0x1234) := by decide

theorem test_decode_pla :
    Decodes [0x68] .pla := by decide

theorem test_decode_bvs :
    Decodes [0x70, 0x34] (.bvs 0x34) := by decide

theorem test_decode_sei :
    Decodes [0x78] .sei := by decide

theorem test_decode_sta :
    Decodes [0x81, 0x34] (.staIzx 0x34) ∧ Decodes [0x85, 0x34] (.staZp0 0x34)
    ∧ Decodes [0x8D, 0x34, 0x12] (.staAbs 0x1234) ∧ Decodes [0x91, 0x34] (.staIzy 0x34)
    ∧ Decodes [0x95, 0x34] (.staZpx 0x34) ∧ Decodes [0x99, 0x34, 0x12] (.staAby 0x1234)
    ∧ Decodes [0x9D, 0x34, 0x12] (.staAbx 0x1234) := by decide

theorem test_decode_sty :
    Decodes [0x84, 0x34] (.styZp0 0x34) ∧ Decodes [0x8C, 0x34, 0x12] (.styAbs 0x1234)
    ∧ Decodes [0x94, 0x34] (.styZpx 0x34) := by decide

theorem test_decode_stx :
    Decodes [0x86, 0x34] (.stxZp0 0x34) ∧ Decodes [0x8E, 0x34, 0x12] (.stxAbs 0x1234)
    ∧ Decodes [0x96, 0x34] (.stxZpy 0x34) := by decide

theorem test_decode_dey :
    Decodes [0x88] .dey := by decide

theorem test_decode_txa :
    Decodes [0x8A] .txa := by decide

theorem test_decode_bcc :
    Decodes [0x90, 0x34] (.bcc 0x34) := by decide

theorem test_decode_tya :
    Decodes [0x98] .tya := by decide

theorem test_decode_txs :
    Decodes [0x9A] .txs := by decide

theorem test_decode_ldy :
    Decodes [0xA0, 0x34] (.ldyImm 0x34) ∧ Decodes [0xA4, 0x34] (.ldyZp0 0x34)
    ∧ Decodes [0xAC, 0x34, 0x12] (.ldyAbs 0x1234) ∧ Decodes [0xB4, 0x34] (.ldyZpx 0x34)
    ∧ Decodes [0xBC, 0x34, 0x12] (.ldyAbx 0x1234) := by decide

theorem test_decode_lda :
    Decodes [0xA1, 0x34] (.ldaIzx 0x34) ∧ Decodes [0xA5, 0x34] (.ldaZp0 0x34)
    ∧ Decodes [0xA9, 0x34] (.ldaImm 0x34) ∧ Decodes [0xAD, 0x34, 0x12] (.ldaAbs 0x1234)
    ∧ Decodes [0xB1, 0x34] (.ldaIzy 0x34) ∧ Decodes [0xB5, 0x34] (.ldaZpx 0x34)
    ∧ Decodes [0xB9, 0x34, 0x12] (.ldaAby 0x1234) ∧ Decodes [0xBD, 0x34, 0x12] (.ldaAbx 0x1234) := by decide

theorem test_decode_ldx :
    Decodes [0xA2, 0x34] (.ldxImm 0x34) ∧ Decodes [0xA6, 0x34] (.ldxZp0 0x34)
    ∧ Decodes [0xAE, 0x34, 0x12] (.ldxAbs 0x1234) ∧ Decodes [0xB6, 0x34] (.ldxZpy 0x34)
    ∧ Decodes [0xBE, 0x34, 0x12] (.ldxAby 0x1234) := by decide

theorem test_decode_tay :
    Decodes [0xA8] .tay := by decide

theorem test_decode_tax :
    Decodes [0xAA] .tax := by decide

theorem test_decode_bcs :
    Decodes [0xB0, 0x34] (.bcs 0x34) := by decide

theorem test_decode_clv :
    Decodes [0xB8] .clv := by decide

theorem test_decode_tsx :
    Decodes [0xBA] .tsx := by decide

theorem test_decode_cpy :
    Decodes [0xC0, 0x34] (.cpyImm 0x34) ∧ Decodes [0xC4, 0x34] (.cpyZp0 0x34)
    ∧ Decodes [0xCC, 0x34, 0x12] (.cpyAbs 0x1234) := by decide

theorem test_decode_cmp :
    Decodes [0xC1, 0x34] (.cmpIzx 0x34) ∧ Decodes [0xC5, 0x34] (.cmpZp0 0x34)
    ∧ Decodes [0xC9, 0x34] (.cmpImm 0x34) ∧ Decodes [0xCD, 0x34, 0x12] (.cmpAbs 0x1234)
    ∧ Decodes [0xD1, 0x34] (.cmpIzy 0x34) ∧ Decodes [0xD5, 0x34] (.cmpZpx 0x34)
    ∧ Decodes [0xD9, 0x34, 0x12] (.cmpAby 0x1234) ∧ Decodes [0xDD, 0x34, 0x12] (.cmpAbx 0x1234) := by decide

theorem test_decode_dec :
    Decodes [0xC6, 0x34] (.decZp0 0x34) ∧ Decodes [0xCE, 0x34, 0x12] (.decAbs 0x1234)
    ∧ Decodes [0xD6, 0x34] (.decZpx 0x34) ∧ Decodes [0xDE, 0x34, 0x12] (.decAbx 0x1234) := by decide

theorem test_decode_iny :
    Decodes [0xC8] .iny := by decide

theorem test_decode_dex :
    Decodes [0xCA] .dex := by decide

theorem test_decode_bne :
    Decodes [0xD0, 0x34] (.bne 0x34) := by decide

theorem test_decode_cld :
    Decodes [0xD8] .cld := by decide

theorem test_decode_cpx :
    Decodes [0xE0, 0x34] (.cpxImm 0x34) ∧ Decodes [0xE4, 0x34] (.cpxZp0 0x34)
    ∧ Decodes [0xEC, 0x34, 0x12] (.cpxAbs 0x1234) := by decide

theorem test_decode_sbc :
    Decodes [0xE1, 0x34] (.sbcIzx 0x34) ∧ Decodes [0xE5, 0x34] (.sbcZp0 0x34)
    ∧ Decodes [0xE9, 0x34] (.sbcImm 0x34) ∧ Decodes [0xED, 0x34, 0x12] (.sbcAbs 0x1234)
    ∧ Decodes [0xF1, 0x34] (.sbcIzy 0x34) ∧ Decodes [0xF5, 0x34] (.sbcZpx 0x34)
    ∧ Decodes [0xF9, 0x34, 0x12] (.sbcAby 0x1234) ∧ Decodes [0xFD, 0x34, 0x12] (.sbcAbx 0x1234) := by decide

theorem test_decode_inc :
    Decodes [0xE6, 0x34] (.incZp0 0x34) ∧ Decodes [0xEE, 0x34, 0x12] (.incAbs 0x1234)
    ∧ Decodes [0xF6, 0x34] (.incZpx 0x34) ∧ Decodes [0xFE, 0x34, 0x12] (.incAbx 0x1234) := by decide

theorem test_decode_inx :
    Decodes [0xE8] .inx := by decide

theorem test_decode_nop :
    Decodes [0xEA] .nop := by decide

theorem test_decode_beq :
    Decodes [0xF0, 0x34] (.beq 0x34) := by decide

theorem test_decode_sed :
    Decodes [0xF8] .sed := by decide

theorem test_decode_undocumented :
    Decodes [0x02] (.xxx 0x02) ∧ Decodes [0x89] (.xxx 0x89) ∧ Decodes [0x9E] (.xxx 0x9E)
    ∧ Decodes [0xEB] (.xxx 0xEB) ∧ Decodes [0xFF] (.xxx 0xFF) := by decide

theorem test_decode_too_short :
    decode [] = .error .noOpcode ∧ decode [0xA9] = .error (.missingOperand 0xA9)
    ∧ decode [0x4C, 0x00] = .error (.missingOperand 0x4C) := by decide

/-- BRK takes a pad byte in BRK_MODE IMM and none in IMP (30_encoding.md R107). -/
theorem test_decode_brk_modes :
    decodeWith .imm [0x00, 0xEA, 0x40] = .ok (.brk, [0x40])
    ∧ decodeWith .imp [0x00, 0xEA, 0x40] = .ok (.brk, [0xEA, 0x40]) := by decide

/-- The table's numbering: the first byte is bits 7..0, the next bits 15..8; bits above `nbits` are 0. -/
theorem test_decodeTableWord :
    decodeTableWord 24 0x12346D = some (.adcAbs 0x1234) ∧ decodeTableWord 8 0xEA = some .nop
    ∧ decodeTableWord 8 0x34A9 = some (.ldaImm 0x00) ∧ decodeTableWord 16 0x12346D = some (.adcAbs 0x0034) := by
  decide

/-! ## Single steps (95_test_vectors.md part 2) -/

/-- What a vector gives of the end state; `ticks` counts the clock calls from the fetch to the next
boundary, the fetching one among them. -/
structure End where
  a : Byte := 0x00
  x : Byte := 0x00
  y : Byte := 0x00
  sp : Byte := 0xFD
  p : Byte := 0x20
  pc : Word := 0x8001
  ticks : Nat := 2
  deriving DecidableEq, Repr

/-- The start of a vector: the state after reset() and 8 clocks, with the code at PC and memory as listed. -/
def start (code : List Byte) (mem : List (Word × Byte) := []) (a x y : Byte := 0x00) (p : Byte := 0x20)
    (sp : Byte := 0xFD) (pc : Word := 0x8000) : State :=
  let s : State :=
    { State.reset with a := a, x := x, y := y, p := p, sp := sp, pc := pc, cycles := 0, totalCycles := 8 }
  let s1 := code.zipIdx.foldl (fun u c => u.memWrite (pc + BitVec.ofNat 16 c.2) c.1) s
  mem.foldl (fun u c => u.memWrite c.1 c.2) s1

/-- The state of a `next` answer. -/
def nextOf : Host.Outcome State Fault Refusal → Option State
  | .next t => some t
  | .fault _ => none
  | .refused _ => none

/-- What one step leaves, as a vector gives it. -/
def ends (s : State) : Option End :=
  (nextOf (step s)).map fun t =>
    { a := t.a, x := t.x, y := t.y, sp := t.sp, p := t.p, pc := t.pc, ticks := t.cycles + 1 }

/-- What addresses read as after one step. -/
def bytesAfter (s : State) (as : List Word) : Option (List Byte) := (nextOf (step s)).map fun t => as.map t.peek

/-- ZP0: LDA $10 (2.1). -/
theorem test_step_ldaZp0 :
    ends (start [0xA5, 0x10] [(0x0010, 0x77)])
      = some { a := 0x77, pc := 0x8002, ticks := 3 } := by decide

/-- ZPX wraps in page 0: LDA $F0,X X=20 (2.1). -/
theorem test_step_ldaZpx :
    ends (start [0xB5, 0xF0] [(0x0010, 0x99)] (x := 0x20))
      = some { a := 0x99, x := 0x20, p := 0xA0, pc := 0x8002, ticks := 4 } := by decide

/-- ZPY wraps: LDX $FF,Y Y=02 (2.1). -/
theorem test_step_ldxZpy :
    ends (start [0xB6, 0xFF] [(0x0001, 0x05)] (y := 0x02))
      = some { x := 0x05, y := 0x02, pc := 0x8002, ticks := 4 } := by decide

/-- ABS: LDA $1234 (2.1). -/
theorem test_step_ldaAbs :
    ends (start [0xAD, 0x34, 0x12] [(0x1234, 0x01)])
      = some { a := 0x01, pc := 0x8003, ticks := 4 } := by decide

/-- ABX cross (SRC §8): LDA $00FF,X X=01 (2.1). -/
theorem test_step_ldaAbx :
    ends (start [0xBD, 0xFF, 0x00] [(0x0100, 0x33)] (x := 0x01))
      = some { a := 0x33, x := 0x01, pc := 0x8003, ticks := 5 } := by decide

/-- ABX wraps 16-bit: LDA $FFFF,X X=01 (2.1). -/
theorem test_step_ldaAbx_2 :
    ends (start [0xBD, 0xFF, 0xFF] [(0x0000, 0x44)] (x := 0x01))
      = some { a := 0x44, x := 0x01, pc := 0x8003, ticks := 5 } := by decide

/-- ABY cross: LDA $12F0,Y Y=20 (2.1). -/
theorem test_step_ldaAby :
    ends (start [0xB9, 0xF0, 0x12] [(0x1310, 0x55)] (y := 0x20))
      = some { a := 0x55, y := 0x20, pc := 0x8003, ticks := 5 } := by decide

/-- ABX store never +1: STA $00FF,X X=01 (2.1). -/
theorem test_step_staAbx :
    ends (start [0x9D, 0xFF, 0x00] (a := 0x66) (x := 0x01))
      = some { a := 0x66, x := 0x01, pc := 0x8003, ticks := 5 }
    ∧ bytesAfter (start [0x9D, 0xFF, 0x00] (a := 0x66) (x := 0x01)) [0x0100]
      = some [0x66] := by decide

/-- IZX pointer wraps: LDA ($FE,X) X=01 (2.1). -/
theorem test_step_ldaIzx :
    ends (start [0xA1, 0xFE] [(0x00FF, 0x00), (0x0000, 0x30), (0x3000, 0x6B)] (x := 0x01))
      = some { a := 0x6B, x := 0x01, pc := 0x8002, ticks := 6 } := by decide

/-- IZY cross: LDA ($40),Y Y=20 (2.1). -/
theorem test_step_ldaIzy :
    ends (start [0xB1, 0x40] [(0x0040, 0xF0), (0x0041, 0x12), (0x1310, 0x42)] (y := 0x20))
      = some { a := 0x42, y := 0x20, pc := 0x8002, ticks := 6 } := by decide

/-- IZY pointer at FF: LDA ($FF),Y Y=00 (2.1). -/
theorem test_step_ldaIzy_2 :
    ends (start [0xB1, 0xFF] [(0x00FF, 0x00), (0x0000, 0x30), (0x3000, 0x8D)])
      = some { a := 0x8D, p := 0xA0, pc := 0x8002, ticks := 5 } := by decide

/-- IND: JMP ($0200) (2.1). -/
theorem test_step_jmpInd :
    ends (start [0x6C, 0x00, 0x02] [(0x0200, 0x34), (0x0201, 0x12)])
      = some { pc := 0x1234, ticks := 5 } := by decide

/-- IND bug (SRC §8): JMP ($01FF) (2.1). -/
theorem test_step_jmpInd_2 :
    ends (start [0x6C, 0xFF, 0x01] [(0x01FF, 0x34), (0x0100, 0x12), (0x0200, 0x56)])
      = some { pc := 0x1234, ticks := 5 } := by decide

/-- LDA #$00 sets Z (2.2). -/
theorem test_step_ldaImm :
    ends (start [0xA9, 0x00])
      = some { p := 0x22, pc := 0x8002 } := by decide

/-- LDX #$FF (2.2). -/
theorem test_step_ldxImm :
    ends (start [0xA2, 0xFF])
      = some { x := 0xFF, p := 0xA0, pc := 0x8002 } := by decide

/-- LDY ABX cross: LDY $00FF,X X=01 (2.2). -/
theorem test_step_ldyAbx :
    ends (start [0xBC, 0xFF, 0x00] [(0x0100, 0x01)] (x := 0x01))
      = some { x := 0x01, y := 0x01, pc := 0x8003, ticks := 5 } := by decide

/-- LDX ABY cross: LDX $00FF,Y Y=01 (2.2). -/
theorem test_step_ldxAby :
    ends (start [0xBE, 0xFF, 0x00] [(0x0100, 0x00)] (y := 0x01))
      = some { y := 0x01, p := 0x22, pc := 0x8003, ticks := 5 } := by decide

/-- STA $0200 (2.2). -/
theorem test_step_staAbs :
    ends (start [0x8D, 0x00, 0x02] (a := 0xAB))
      = some { a := 0xAB, pc := 0x8003, ticks := 4 }
    ∧ bytesAfter (start [0x8D, 0x00, 0x02] (a := 0xAB)) [0x0200]
      = some [0xAB] := by decide

/-- STA ($40),Y cross, 6 ticks (2.2). -/
theorem test_step_staIzy :
    ends (start [0x91, 0x40] [(0x0040, 0xF0), (0x0041, 0x12)] (a := 0x11) (y := 0x20))
      = some { a := 0x11, y := 0x20, pc := 0x8002, ticks := 6 }
    ∧ bytesAfter (start [0x91, 0x40] [(0x0040, 0xF0), (0x0041, 0x12)] (a := 0x11) (y := 0x20)) [0x1310]
      = some [0x11] := by decide

/-- STX $10,Y Y=F5 wraps (2.2). -/
theorem test_step_stxZpy :
    ends (start [0x96, 0x10] (x := 0xCD) (y := 0xF5))
      = some { x := 0xCD, y := 0xF5, pc := 0x8002, ticks := 4 }
    ∧ bytesAfter (start [0x96, 0x10] (x := 0xCD) (y := 0xF5)) [0x0005]
      = some [0xCD] := by decide

/-- STY $FF,X X=02 wraps (2.2). -/
theorem test_step_styZpx :
    ends (start [0x94, 0xFF] (x := 0x02) (y := 0xEE))
      = some { x := 0x02, y := 0xEE, pc := 0x8002, ticks := 4 }
    ∧ bytesAfter (start [0x94, 0xFF] (x := 0x02) (y := 0xEE)) [0x0001]
      = some [0xEE] := by decide

/-- TAX (A=80) (2.2). -/
theorem test_step_tax :
    ends (start [0xAA] (a := 0x80))
      = some { a := 0x80, x := 0x80, p := 0xA0 } := by decide

/-- TAY (A=00) (2.2). -/
theorem test_step_tay :
    ends (start [0xA8] (a := 0x00) (y := 0x55))
      = some { p := 0x22 } := by decide

/-- TSX (2.2). -/
theorem test_step_tsx :
    ends (start [0xBA])
      = some { x := 0xFD, p := 0xA0 } := by decide

/-- TXA (X=00) (2.2). -/
theorem test_step_txa :
    ends (start [0x8A] (a := 0x12) (x := 0x00))
      = some { p := 0x22 } := by decide

/-- TXS (X=00) flags unchanged (2.2). -/
theorem test_step_txs :
    ends (start [0x9A] (x := 0x00))
      = some { sp := 0x00 } := by decide

/-- TYA (Y=FF) (2.2). -/
theorem test_step_tya :
    ends (start [0x98] (y := 0xFF))
      = some { a := 0xFF, y := 0xFF, p := 0xA0 } := by decide

/-- ADC 50+50 (SRC §8) (2.3). -/
theorem test_step_adcImm :
    ends (start [0x69, 0x50] (a := 0x50))
      = some { a := 0xA0, p := 0xE0, pc := 0x8002 } := by decide

/-- ADC with D=1 stays binary: 09+01 (2.3). -/
theorem test_step_adcImm_2 :
    ends (start [0x69, 0x01] (a := 0x09) (p := 0x28))
      = some { a := 0x0A, p := 0x28, pc := 0x8002 } := by decide

/-- SBC 50-B0 C=1 (2.3). -/
theorem test_step_sbcImm :
    ends (start [0xE9, 0xB0] (a := 0x50) (p := 0x21))
      = some { a := 0xA0, p := 0xE0, pc := 0x8002 } := by decide

/-- SBC 05-03 C=0 (borrow) (2.3). -/
theorem test_step_sbcImm_2 :
    ends (start [0xE9, 0x03] (a := 0x05))
      = some { a := 0x01, p := 0x21, pc := 0x8002 } := by decide

/-- AND F0&0F (2.3). -/
theorem test_step_andImm :
    ends (start [0x29, 0x0F] (a := 0xF0))
      = some { p := 0x22, pc := 0x8002 } := by decide

/-- ORA 01 or 80 (2.3). -/
theorem test_step_oraImm :
    ends (start [0x09, 0x80] (a := 0x01))
      = some { a := 0x81, p := 0xA0, pc := 0x8002 } := by decide

/-- EOR FF xor FF (2.3). -/
theorem test_step_eorImm :
    ends (start [0x49, 0xFF] (a := 0xFF))
      = some { p := 0x22, pc := 0x8002 } := by decide

/-- BIT A=0F M=C0 (2.3). -/
theorem test_step_bitZp0 :
    ends (start [0x24, 0x10] [(0x0010, 0xC0)] (a := 0x0F))
      = some { a := 0x0F, p := 0xE2, pc := 0x8002, ticks := 3 } := by decide

/-- BIT A=FF M=01 clears N V (2.3). -/
theorem test_step_bitZp0_2 :
    ends (start [0x24, 0x10] [(0x0010, 0x01)] (a := 0xFF) (p := 0xE0))
      = some { a := 0xFF, pc := 0x8002, ticks := 3 } := by decide

/-- CMP 10 vs 20 (2.3). -/
theorem test_step_cmpImm :
    ends (start [0xC9, 0x20] (a := 0x10))
      = some { a := 0x10, p := 0xA0, pc := 0x8002 } := by decide

/-- CMP 20 vs 20 (2.3). -/
theorem test_step_cmpImm_2 :
    ends (start [0xC9, 0x20] (a := 0x20))
      = some { a := 0x20, p := 0x23, pc := 0x8002 } := by decide

/-- CPX 00 vs FF (2.3). -/
theorem test_step_cpxImm :
    ends (start [0xE0, 0xFF] (x := 0x00))
      = some { pc := 0x8002 } := by decide

/-- CPY FF vs 00 (2.3). -/
theorem test_step_cpyImm :
    ends (start [0xC0, 0x00] (y := 0xFF))
      = some { y := 0xFF, p := 0xA1, pc := 0x8002 } := by decide

/-- INC FF (2.3). -/
theorem test_step_incZp0 :
    ends (start [0xE6, 0x10] [(0x0010, 0xFF)])
      = some { p := 0x22, pc := 0x8002, ticks := 5 }
    ∧ bytesAfter (start [0xE6, 0x10] [(0x0010, 0xFF)]) [0x0010]
      = some [0x00] := by decide

/-- DEC 00 (2.3). -/
theorem test_step_decZp0 :
    ends (start [0xC6, 0x10] [(0x0010, 0x00)])
      = some { p := 0xA0, pc := 0x8002, ticks := 5 }
    ∧ bytesAfter (start [0xC6, 0x10] [(0x0010, 0x00)]) [0x0010]
      = some [0xFF] := by decide

/-- INC ABX never +1: INC $00FF,X X=01 (2.3). -/
theorem test_step_incAbx :
    ends (start [0xFE, 0xFF, 0x00] [(0x0100, 0x7F)] (x := 0x01))
      = some { x := 0x01, p := 0xA0, pc := 0x8003, ticks := 7 }
    ∧ bytesAfter (start [0xFE, 0xFF, 0x00] [(0x0100, 0x7F)] (x := 0x01)) [0x0100]
      = some [0x80] := by decide

/-- INX FF (2.3). -/
theorem test_step_inx :
    ends (start [0xE8] (x := 0xFF))
      = some { p := 0x22 } := by decide

/-- INY 7F (2.3). -/
theorem test_step_iny :
    ends (start [0xC8] (y := 0x7F))
      = some { y := 0x80, p := 0xA0 } := by decide

/-- DEX 00 (2.3). -/
theorem test_step_dex :
    ends (start [0xCA] (x := 0x00))
      = some { x := 0xFF, p := 0xA0 } := by decide

/-- DEY 01 (2.3). -/
theorem test_step_dey :
    ends (start [0x88] (y := 0x01))
      = some { p := 0x22 } := by decide

/-- ADC ABX cross: ADC $00FF,X X=01 (2.3). -/
theorem test_step_adcAbx :
    ends (start [0x7D, 0xFF, 0x00] [(0x0100, 0x01)] (x := 0x01))
      = some { a := 0x01, x := 0x01, pc := 0x8003, ticks := 5 } := by decide

/-- ASL A (81) (2.4). -/
theorem test_step_aslImp :
    ends (start [0x0A] (a := 0x81))
      = some { a := 0x02, p := 0x21 } := by decide

/-- ASL $10 (2.4). -/
theorem test_step_aslZp0 :
    ends (start [0x06, 0x10] [(0x0010, 0x40)])
      = some { p := 0xA0, pc := 0x8002, ticks := 5 }
    ∧ bytesAfter (start [0x06, 0x10] [(0x0010, 0x40)]) [0x0010]
      = some [0x80] := by decide

/-- ASL ABX never +1 (2.4). -/
theorem test_step_aslAbx :
    ends (start [0x1E, 0xFF, 0x00] [(0x0100, 0x01)] (x := 0x01))
      = some { x := 0x01, pc := 0x8003, ticks := 7 }
    ∧ bytesAfter (start [0x1E, 0xFF, 0x00] [(0x0100, 0x01)] (x := 0x01)) [0x0100]
      = some [0x02] := by decide

/-- LSR A (01) (2.4). -/
theorem test_step_lsrImp :
    ends (start [0x4A] (a := 0x01))
      = some { p := 0x23 } := by decide

/-- LSR $20 (03) (2.4). -/
theorem test_step_lsrZp0 :
    ends (start [0x46, 0x20] [(0x0020, 0x03)])
      = some { p := 0x21, pc := 0x8002, ticks := 5 }
    ∧ bytesAfter (start [0x46, 0x20] [(0x0020, 0x03)]) [0x0020]
      = some [0x01] := by decide

/-- ROL A (40, C=1) (2.4). -/
theorem test_step_rolImp :
    ends (start [0x2A] (a := 0x40) (p := 0x21))
      = some { a := 0x81, p := 0xA0 } := by decide

/-- ROL $10 (00, C=1) (2.4). -/
theorem test_step_rolZp0 :
    ends (start [0x26, 0x10] [(0x0010, 0x00)] (p := 0x21))
      = some { pc := 0x8002, ticks := 5 }
    ∧ bytesAfter (start [0x26, 0x10] [(0x0010, 0x00)] (p := 0x21)) [0x0010]
      = some [0x01] := by decide

/-- ROR A (02, C=1) (2.4). -/
theorem test_step_rorImp :
    ends (start [0x6A] (a := 0x02) (p := 0x21))
      = some { a := 0x81, p := 0xA0 } := by decide

/-- ROR $10 (01, C=1) (2.4). -/
theorem test_step_rorZp0 :
    ends (start [0x66, 0x10] [(0x0010, 0x01)] (p := 0x21))
      = some { p := 0xA1, pc := 0x8002, ticks := 5 }
    ∧ bytesAfter (start [0x66, 0x10] [(0x0010, 0x01)] (p := 0x21)) [0x0010]
      = some [0x80] := by decide

/-- BNE taken, same page (2.5). -/
theorem test_step_bne :
    ends (start [0xD0, 0xFA] (pc := 0x8014))
      = some { pc := 0x8010, ticks := 3 } := by decide

/-- BNE taken, page cross (2.5). -/
theorem test_step_bne_2 :
    ends (start [0xD0, 0x10] (pc := 0x80FD))
      = some { pc := 0x810F, ticks := 4 } := by decide

/-- BEQ not taken (2.5). -/
theorem test_step_beq :
    ends (start [0xF0, 0x10] (pc := 0x80FD))
      = some { pc := 0x80FF } := by decide

/-- BCC taken (2.5). -/
theorem test_step_bcc :
    ends (start [0x90, 0x02])
      = some { pc := 0x8004, ticks := 3 } := by decide

/-- BCS not taken (2.5). -/
theorem test_step_bcs :
    ends (start [0xB0, 0x02])
      = some { pc := 0x8002 } := by decide

/-- BCS taken (C=1) (2.5). -/
theorem test_step_bcs_2 :
    ends (start [0xB0, 0x02] (p := 0x21))
      = some { p := 0x21, pc := 0x8004, ticks := 3 } := by decide

/-- BMI taken (N=1), cross (2.5). -/
theorem test_step_bmi :
    ends (start [0x30, 0x10] (p := 0xA0) (pc := 0x80FD))
      = some { p := 0xA0, pc := 0x810F, ticks := 4 } := by decide

/-- BPL taken (2.5). -/
theorem test_step_bpl :
    ends (start [0x10, 0x7F])
      = some { pc := 0x8081, ticks := 3 } := by decide

/-- BVC taken (2.5). -/
theorem test_step_bvc :
    ends (start [0x50, 0x7F])
      = some { pc := 0x8081, ticks := 3 } := by decide

/-- BVS not taken (2.5). -/
theorem test_step_bvs :
    ends (start [0x70, 0x02])
      = some { pc := 0x8002 } := by decide

/-- BVS taken (V=1) (2.5). -/
theorem test_step_bvs_2 :
    ends (start [0x70, 0x02] (p := 0x60))
      = some { p := 0x60, pc := 0x8004, ticks := 3 } := by decide

/-- JMP $1234 (2.5). -/
theorem test_step_jmpAbs :
    ends (start [0x4C, 0x34, 0x12])
      = some { pc := 0x1234, ticks := 3 } := by decide

/-- JSR $9000 (2.5). -/
theorem test_step_jsr :
    ends (start [0x20, 0x00, 0x90])
      = some { sp := 0xFB, pc := 0x9000, ticks := 6 }
    ∧ bytesAfter (start [0x20, 0x00, 0x90]) [0x01FC, 0x01FD]
      = some [0x02, 0x80] := by decide

/-- JSR with S=00 (2.5). -/
theorem test_step_jsr_2 :
    ends (start [0x20, 0x00, 0x90] (sp := 0x00))
      = some { sp := 0xFE, pc := 0x9000, ticks := 6 }
    ∧ bytesAfter (start [0x20, 0x00, 0x90] (sp := 0x00)) [0x0100, 0x01FF]
      = some [0x80, 0x02] := by decide

/-- RTS pulls FFFF (2.5). -/
theorem test_step_rts :
    ends (start [0x60] [(0x01FC, 0xFF), (0x01FD, 0xFF)] (sp := 0xFB))
      = some { pc := 0x0000, ticks := 6 } := by decide

/-- PHA (2.6). -/
theorem test_step_pha :
    ends (start [0x48] (a := 0x42))
      = some { a := 0x42, sp := 0xFC, ticks := 3 }
    ∧ bytesAfter (start [0x48] (a := 0x42)) [0x01FD]
      = some [0x42] := by decide

/-- PHP (2.6). -/
theorem test_step_php :
    ends (start [0x08])
      = some { sp := 0xFC, ticks := 3 }
    ∧ bytesAfter (start [0x08]) [0x01FD]
      = some [0x30] := by decide

/-- PLA 80 (2.6). -/
theorem test_step_pla :
    ends (start [0x68] [(0x01FE, 0x80)])
      = some { a := 0x80, sp := 0xFE, p := 0xA0, ticks := 4 } := by decide

/-- PLP FF (live B=1) (2.6). -/
theorem test_step_plp :
    ends (start [0x28] [(0x01FE, 0xFF)])
      = some { sp := 0xFE, p := 0xFF, ticks := 4 } := by decide

/-- PLP 00 (2.6). -/
theorem test_step_plp_2 :
    ends (start [0x28] [(0x01FE, 0x00)])
      = some { sp := 0xFE, ticks := 4 } := by decide

/-- CLC (2.6). -/
theorem test_step_clc :
    ends (start [0x18] (p := 0xFF))
      = some { p := 0xFE } := by decide

/-- CLD (2.6). -/
theorem test_step_cld :
    ends (start [0xD8] (p := 0xFF))
      = some { p := 0xF7 } := by decide

/-- CLI (2.6). -/
theorem test_step_cli :
    ends (start [0x58] (p := 0xFF))
      = some { p := 0xFB } := by decide

/-- CLV (2.6). -/
theorem test_step_clv :
    ends (start [0xB8] (p := 0xFF))
      = some { p := 0xBF } := by decide

/-- SEC (2.6). -/
theorem test_step_sec :
    ends (start [0x38] (p := 0x20))
      = some { p := 0x21 } := by decide

/-- SED (2.6). -/
theorem test_step_sed :
    ends (start [0xF8] (p := 0x20))
      = some { p := 0x28 } := by decide

/-- SEI (2.6). -/
theorem test_step_sei :
    ends (start [0x78] (p := 0x20))
      = some { p := 0x24 } := by decide

/-- NOP (2.6). -/
theorem test_step_nop :
    ends (start [0xEA])
      = some ({} : End) := by decide

/-- BRK (BRK_MODE=IMM) (2.6). -/
theorem test_step_brk :
    ends (start [0x00, 0xEA] [(0xFFFE, 0x00), (0xFFFF, 0x90)])
      = some { sp := 0xFA, p := 0x24, pc := 0x9000, ticks := 7 }
    ∧ bytesAfter (start [0x00, 0xEA] [(0xFFFE, 0x00), (0xFFFF, 0x90)]) [0x01FB, 0x01FC, 0x01FD]
      = some [0x34, 0x03, 0x80] := by decide

/-- RTI pulls FF (2.6). -/
theorem test_step_rti :
    ends (start [0x40] [(0x01FD, 0xFF), (0x01FE, 0x34), (0x01FF, 0x12)] (sp := 0xFC))
      = some { sp := 0xFF, p := 0xEF, pc := 0x1234, ticks := 6 } := by decide

/-- ??? 03 (2.6). -/
theorem test_step_xxx_03 :
    ends (start [0x03])
      = some { ticks := 8 } := by decide

/-- ??? 1C (2.6). -/
theorem test_step_xxx_1C :
    ends (start [0x1C])
      = some { ticks := 4 } := by decide

/-- ??? 9E (2.6). -/
theorem test_step_xxx_9E :
    ends (start [0x9E])
      = some { ticks := 5 } := by decide

/-- ??? FC (2.6). -/
theorem test_step_xxx_FC :
    ends (start [0xFC])
      = some { ticks := 4 } := by decide

/-! ## Interrupts, reset and the bus (95_test_vectors.md 2.7, 2.8, program P6) -/

/-- The memory of 2.7: IRQ to 9000, NMI to A000, RTI at both, NOPs at 8000. -/
def handlers (p : Byte := 0x20) : State :=
  start [0xEA, 0xEA]
    [(0xFFFE, 0x00), (0xFFFF, 0x90), (0xFFFA, 0x00), (0xFFFB, 0xA0), (0x9000, 0x40), (0xA000, 0x40)] (p := p)

/-- irq() with I = 0. -/
theorem test_irq_taken :
    let t := (handlers).irq
    (t.sp, t.p, t.pc, t.cycles) = (0xFA, 0x24, 0x9000, 7)
      ∧ [t.peek 0x01FD, t.peek 0x01FC, t.peek 0x01FB] = [0x80, 0x00, 0x24] := by decide

/-- irq() with I = 1. -/
theorem test_irq_masked : (handlers (p := 0x24)).irq = handlers (p := 0x24) := by decide

/-- nmi() with I = 1. -/
theorem test_nmi_taken :
    let t := (handlers (p := 0x24)).nmi
    (t.sp, t.p, t.pc, t.cycles) = (0xFA, 0x24, 0xA000, 8)
      ∧ [t.peek 0x01FD, t.peek 0x01FC, t.peek 0x01FB] = [0x80, 0x00, 0x24] := by decide

/-- irq(), then nmi(): the six stacked bytes. -/
theorem test_irq_then_nmi :
    let t := (handlers).irq.nmi
    (t.sp, t.pc, t.cycles) = (0xF7, 0xA000, 8)
      ∧ [0x01FD, 0x01FC, 0x01FB, 0x01FA, 0x01F9, 0x01F8].map t.peek = [0x80, 0x00, 0x24, 0x90, 0x00, 0x24] := by
  decide

/-- nmi(), then irq(): the irq() is dropped. -/
theorem test_nmi_then_irq : (handlers).nmi.irq = (handlers).nmi := by decide

/-- irq() while an LDA counts down: the LDA's effect stays, its remaining cycles are discarded. -/
theorem test_irq_discards_remaining_cycles :
    let s := start [0xAD, 0x00, 0x02, 0xEA] [(0x0200, 0x55), (0xFFFF, 0x90)]
    (nextOf (step s)).map (fun t => (t.a, t.cycles, t.irq.cycles, t.irq.pc, t.irq.peek 0x01FC))
      = some (0x55, 3, 7, 0x9000, 0x03) := by decide

/-- reset() with [FFFC] = 34 and [FFFD] = 12. -/
theorem test_reset_vector :
    let t := (start [] [(0xFFFC, 0x34), (0xFFFD, 0x12)] (a := 0x99) (p := 0xFF)).resetCommand
    (t.a, t.sp, t.p, t.pc, t.cycles, t.totalCycles) = (0x00, 0xFD, 0x20, 0x1234, 8, 0) := by decide

/-- A step runs the host's next command (2.7), Irq, Nmi and Reset each their own, and takes it from the list. -/
theorem test_step_runs_host_command :
    let after (c : HostCommand) : Option (Byte × Byte × Word × Nat) :=
      (nextOf (step { handlers with hostCommands := [c] })).map fun t => (t.sp, t.p, t.pc, t.cycles)
    after .irq = some (0xFA, 0x24, 0x9000, 7) ∧ after .nmi = some (0xFA, 0x24, 0xA000, 8)
      ∧ after .reset = some (0xFD, 0x20, 0x0000, 8)
      ∧ (nextOf (step { handlers with hostCommands := [.irq, .nmi] })).map (·.hostCommands) = some [.nmi] := by
  decide

/-- A fetch on a bus with a device that is no plain memory reads the operand bytes of LDA abs in order; BRK's pad
byte, which would lie in that device, is not read (R263). -/
theorem test_fetch_beside_device :
    let bus (cells : Memory) : List Device :=
      [{ Device.ram with upper := 0x8FFF, store := .memory cells },
        { lower := 0x9000, upper := 0xFFFF, readable := true, writable := true, store := .other 0 [] }]
    let s (pc : Word) (cells : Memory) : State := { State.reset with pc := pc, cycles := 0, devices := bus cells }
    (s 0x8000 []).plain = false
      ∧ (let f := fetch (s 0x8000 [(0x8000, 0xAD), (0x8001, 0x34), (0x8002, 0x12)])
         f.1 = .ldaAbs 0x1234 ∧ f.2.pc = 0x8003)
      ∧ (let f := fetch (s 0x8FFF [])
         f.1 = .brk ∧ f.2.pc = 0x9001 ∧ f.2.devices = bus []) := by decide

/-- Before the first reset Clock, Irq and Nmi are refused, and Reset gives the reset state. -/
theorem test_construction :
    let s := { State.reset with sp := 0x00, p := 0x00, cycles := 0, resetDone := false }
    nextOf (command .clock s) = none ∧ nextOf (command .irq s) = none ∧ nextOf (command .nmi s) = none
      ∧ nextOf (command .reset s) = some State.reset := by decide

/-- The first opcode after reset() with nothing loaded is BRK at 0000, which pushes from S = FD. -/
theorem test_reset_then_brk :
    ends { State.reset with cycles := 0 } = some { sp := 0xFA, p := 0x24, pc := 0x0000, ticks := 7 } := by decide

/-- On a machine whose BRK_MODE is IMP the same BRK stacks its address + 2 (30_encoding.md R107), and on one whose
BASE_CYCLES is 9 at 0x00 it takes 9 ticks. -/
theorem test_parameters :
    let brk (p : Params) : State := { start [0x00, 0xEA] with params := p }
    bytesAfter (brk (Params.of .imp baseCycles)) [0x01FD, 0x01FC, 0x01FB] = some [0x80, 0x02, 0x34]
      ∧ bytesAfter (brk defaultParams) [0x01FD, 0x01FC, 0x01FB] = some [0x80, 0x03, 0x34]
      ∧ (ends (brk (Params.of .imm fun op => if op = 0x00 then 9 else 2))).map End.ticks = some 9 := by decide

/-- A change notification for each register that differs, PC, P, S, A, X, Y in that order
(40_execution_and_addressing.md R136). -/
theorem test_notifications :
    (nextOf (step (start [0xA9, 0x80]))).map (notifications (start [0xA9, 0x80]))
      = some [.pc 0x8002, .p 0xA0, .a 0x80] := by decide

/-- A read-only ROM in front of RAM, as in program P6. -/
def romAndRam : List Device :=
  [{ lower := 0x8000, upper := 0xFFFF, readable := true, writable := false, store := .memory [(0x8000, 0x77)] },
    { lower := 0x0000, upper := 0x7FFF, readable := true, writable := true, store := .memory [] }]

/-- Reads and writes go to the first device that handles them; a write to ROM alone is discarded. -/
theorem test_bus_routing :
    Bus.write romAndRam 0x8000 0x12 = romAndRam ∧ (Bus.read romAndRam 0x8000 false).1 = 0x77
      ∧ (Bus.read (Bus.write romAndRam 0x7FFF 0x12) 0x7FFF false).1 = 0x12
      ∧ (Bus.read [] 0x1234 false).1 = 0x00 := by decide

/-- The host's own write to a device is not routed by the bus: it fills ROM. -/
theorem test_bootstrap_fills_rom :
    (State.bootstrap { State.reset with devices := romAndRam } [(0, 0x8001, 0x5A)]).peek 0x8001 = 0x5A := by
  decide

/-- Memory keeps its canonical form: cells sorted, and writing 0x00 removes a cell. -/
theorem test_memory_canonical :
    Memory.write (Memory.write (Memory.write [] 5 0x11) 3 0x22) 5 0x00 = [(3, 0x22)]
      ∧ Memory.wf [(3, 0x22), (5, 0x11)] = true ∧ Memory.wf [(5, 0x11), (3, 0x22)] = false
      ∧ Memory.wf [(3, 0x00)] = false := by decide

/-- A word of the opcode table runs as the first instruction after reset. -/
theorem test_withFetchWord :
    ends (State.reset.withFetchWord 16 0x80A9) = some { a := 0x80, p := 0xA0, pc := 0x0002 } := by decide

/-! ## Witnesses: for each statement with hypotheses, data that meets all of them, clause by clause -/

/-- A RAM machine is plain and canonical, so the memory clause of every `Frame` has a state. -/
theorem witness_Frame : (handlers).plain = true ∧ (handlers).canonical = true := by decide

theorem witness_onRam : ∃ cells, (handlers).onRam cells := ⟨_, rfl, by decide⟩

theorem witness_DecodeGivesBackEncoded :
    (Instr.jmpAbs 0xFFFF).wellFormed = true ∧ (Instr.ldaImm 0xFF).wellFormed = true
      ∧ (Instr.xxx 0xFF).wellFormed = true := by decide

theorem witness_DecodedIsEncoded :
    decodeWith .imm [0x00, 0xEA, 0x40] = .ok (.brk, [0x40]) ∧ decodeWith .imp [0x00, 0xEA] = .ok (.brk, [0xEA])
      ∧ decodeWith .imp [0x6C, 0xFF, 0xFF] = .ok (.jmpInd 0xFFFF, []) ∧ Instr.jmpInd 0xFFFF ≠ .brk := by decide

theorem witness_EveryOpcodeByteDecodes :
    ((Instr.ldaImm 0x00).wellFormed = true ∧ (Instr.ldaImm 0xFF).wellFormed = true
      ∧ (Instr.ldaImm 0x00).opcode = (Instr.ldaImm 0xFF).opcode)
    ∧ decodeWith .imp [0xAD, 0xFF] = .error (.missingOperand 0xAD)
    ∧ decodeWith .imm [0x00] = .error (.missingOperand 0x00) := by decide

theorem witness_UndocumentedBytesDecodeToXxx :
    0x02#8 ∈ undocumentedBytes ∧ 0xFF#8 ∈ undocumentedBytes
      ∧ 0xEA#8 ∉ undocumentedBytes ∧ decodeWith .imp [0xEA] = .ok (.nop, []) := by decide

theorem witness_LengthIsFixedByMode :
    (Instr.ldaAbs 0x0000).operand.mode = (Instr.jsr 0xFFFF).operand.mode
      ∧ (Instr.brk.operandWith .imp).mode = (Instr.rti.operandWith .imp).mode
      ∧ (Instr.ldaAbs 0x0000).wellFormed = true ∧ (Instr.ldaAbs 0xFFFF).wellFormed = true
      ∧ (Instr.ldaAbs 0x0000).opcode = (Instr.ldaAbs 0xFFFF).opcode := by decide

/-- No device, then a device at each end of its range with a device that does not handle the access in front. -/
theorem witness_BusReadSelectsFirstReadable :
    let rom := romAndRam.headD Device.ram
    let ram := romAndRam.getLastD Device.ram
    (∀ d ∈ [rom], ¬ (d.lower ≤ 0x7FFF#16 ∧ 0x7FFF#16 ≤ d.upper ∧ d.readable = true))
    ∧ romAndRam = [rom] ++ ram :: []
    ∧ ram.lower ≤ 0x7FFF#16 ∧ 0x7FFF#16 ≤ ram.upper ∧ ram.readable = true
    ∧ ram.lower ≤ 0x0000#16 ∧ (0x0000#16) ≤ ram.upper := by decide

/-- ROM is not writable, so no device handles a write at its ends; RAM handles one at both of its ends. -/
theorem witness_BusWriteSelectsFirstWritable :
    let rom := romAndRam.headD Device.ram
    let ram := romAndRam.getLastD Device.ram
    (∀ d ∈ romAndRam, ¬ (d.lower ≤ 0x8000#16 ∧ 0x8000#16 ≤ d.upper ∧ d.writable = true))
    ∧ (∀ d ∈ romAndRam, ¬ (d.lower ≤ 0xFFFF#16 ∧ 0xFFFF#16 ≤ d.upper ∧ d.writable = true))
    ∧ romAndRam = [rom] ++ ram :: []
    ∧ (∀ d ∈ [rom], ¬ (d.lower ≤ 0x7FFF#16 ∧ 0x7FFF#16 ≤ d.upper ∧ d.writable = true))
    ∧ ram.lower ≤ 0x7FFF#16 ∧ 0x7FFF#16 ≤ ram.upper ∧ ram.writable = true := by decide

theorem witness_RamReadsLastByteWritten : State.reset.onRam [] ∧ (∃ cells, (handlers).onRam cells) :=
  ⟨⟨rfl, rfl⟩, witness_onRam⟩

theorem witness_ConstructionNeedsWellFormedBus :
    ((∀ d ∈ [Device.ram], d.lower ≤ d.upper) ∧ (∃ d ∈ [Device.ram], d.readable = true)
      ∧ ∃ d ∈ [Device.ram], d.writable = true)
    ∧ (¬ ∃ d ∈ ([] : List Device), d.readable = true)
    ∧ (¬ ∀ d ∈ [{ Device.ram with lower := 0x0001, upper := 0x0000 }], d.lower ≤ d.upper)
    ∧ ¬ ∃ d ∈ [{ Device.ram with writable := false }], d.writable = true := by decide

theorem witness_ReadOnlyReadsChangeNothing : State.reset.plain = true := by decide

/-- The two cases of Indirect's high byte, at their boundaries. -/
theorem witness_PointerModesComputeAddress :
    (handlers).plain = true ∧ (0xFFFF#16).toNat % 256 = 255 ∧ (0x00FE#16).toNat % 256 ≠ 255 := by decide

theorem witness_AddressingWritesNothing : (handlers).plain = true := by decide

theorem witness_LoadsLoadOperand :
    ((Instr.ldaIzy 0xFF).mnemonic, Reg.a) ∈ [(Mnemonic.lda, Reg.a), (.ldx, .x), (.ldy, .y)]
    ∧ ((Instr.ldxZpy 0xFF).mnemonic, Reg.x) ∈ [(Mnemonic.lda, Reg.a), (.ldx, .x), (.ldy, .y)]
    ∧ ((Instr.ldyAbx 0xFFFF).mnemonic, Reg.y) ∈ [(Mnemonic.lda, Reg.a), (.ldx, .x), (.ldy, .y)] := by decide

theorem witness_StoresWriteRegister :
    ((Instr.staIzx 0xFF).mnemonic, Reg.a) ∈ [(Mnemonic.sta, Reg.a), (.stx, .x), (.sty, .y)]
    ∧ ((Instr.stxZpy 0xFF).mnemonic, Reg.x) ∈ [(Mnemonic.sta, Reg.a), (.stx, .x), (.sty, .y)]
    ∧ ((Instr.styAbs 0xFFFF).mnemonic, Reg.y) ∈ [(Mnemonic.sta, Reg.a), (.stx, .x), (.sty, .y)] := by decide

theorem witness_TransfersCopyRegister :
    (Instr.tax.mnemonic, Reg.a, Reg.x) ∈ [(Mnemonic.tax, Reg.a, Reg.x), (.tay, .a, .y), (.tsx, .sp, .x),
      (.txa, .x, .a), (.tya, .y, .a)]
    ∧ (Instr.tsx.mnemonic, Reg.sp, Reg.x) ∈ [(Mnemonic.tax, Reg.a, Reg.x), (.tay, .a, .y), (.tsx, .sp, .x),
      (.txa, .x, .a), (.tya, .y, .a)]
    ∧ (Instr.tya.mnemonic, Reg.y, Reg.a) ∈ [(Mnemonic.tax, Reg.a, Reg.x), (.tay, .a, .y), (.tsx, .sp, .x),
      (.txa, .x, .a), (.tya, .y, .a)] := by decide

theorem witness_AdcAddsWithCarry : (Instr.adcAbx 0xFFFF).mnemonic = .adc := by decide

theorem witness_SbcSubtractsWithBorrow : (Instr.sbcIzy 0xFF).mnemonic = .sbc := by decide

theorem witness_DecimalFlagIsInert :
    (Instr.adcImm 0x09).mnemonic ∉ [Mnemonic.php, .brk, .cld, .sed, .plp, .rti]
      ∧ Instr.rti.mnemonic ∈ [Mnemonic.cld, .sed, .plp, .rti] := by decide

theorem witness_LogicCombinesWithA :
    (Instr.andImm 0xFF).mnemonic = .and ∧ (Instr.oraImm 0xFF).mnemonic = .ora
      ∧ (Instr.eorImm 0xFF).mnemonic = .eor := by decide

theorem witness_BitTestsOperand : (Instr.bitAbs 0xFFFF).mnemonic = .bit := by decide

theorem witness_ComparesAreUnsigned :
    ((Instr.cmpAbx 0xFFFF).mnemonic, Reg.a, true) ∈ [(Mnemonic.cmp, Reg.a, true), (.cpx, .x, false),
      (.cpy, .y, false)]
    ∧ ((Instr.cpxImm 0xFF).mnemonic, Reg.x, false) ∈ [(Mnemonic.cmp, Reg.a, true), (.cpx, .x, false),
      (.cpy, .y, false)]
    ∧ ((Instr.cpyImm 0x00).mnemonic, Reg.y, false) ∈ [(Mnemonic.cmp, Reg.a, true), (.cpx, .x, false),
      (.cpy, .y, false)] := by decide

theorem witness_IncDecUpdateMemory :
    (Instr.incAbx 0xFFFF).mnemonic = .inc ∧ (Instr.decZp0 0xFF).mnemonic = .dec := by decide

theorem witness_IndexStepsWrap :
    (Instr.inx.mnemonic, Reg.x, 1) ∈ [(Mnemonic.inx, Reg.x, 1), (.iny, .y, 1), (.dex, .x, 255), (.dey, .y, 255)]
    ∧ (Instr.dey.mnemonic, Reg.y, 255) ∈ [(Mnemonic.inx, Reg.x, 1), (.iny, .y, 1), (.dex, .x, 255),
      (.dey, .y, 255)] := by decide

/-- ROR A of 0x01 with C = 1: result 0x80, carry 1; and a memory form, whose operand is not Implied. -/
theorem witness_ShiftsWriteBack :
    (let s := start [] (a := 0x01) (p := 0x21)
     let m := (Instr.rorImp.operand.value s).toNat
     let c := if s.flag .c then 1 else 0
     (Instr.rorImp.mnemonic, 0x80, 1) ∈ [(Mnemonic.asl, m * 2 % 256, m / 128), (.lsr, m / 2, m % 2),
        (.rol, (m * 2 + c) % 256, m / 128), (.ror, c * 128 + m / 2, m % 2)])
    ∧ (let s := start [] [(0x10, 0x80)]
       let m := ((Instr.aslZp0 0x10).operand.value s).toNat
       ((Instr.aslZp0 0x10).mnemonic, 0, 1) ∈ [(Mnemonic.asl, m * 2 % 256, m / 128)])
    ∧ Instr.rorImp.operand = .imp ∧ (Instr.aslZp0 0x10).operand ≠ .imp := by decide

/-- Each side of each branch condition, and each side of the page test, at its boundary. -/
theorem witness_BranchesTestTheirFlag :
    (Instr.bne 0x10, Flag.z, false) ∈ [(Instr.bcc 0x10, Flag.c, false), (.bne 0x10, .z, false)]
    ∧ (start [] (p := 0x20)).flag .z = false ∧ (start [] (p := 0x22)).flag .z ≠ false
    ∧ (0x80FD#16 + (0x02#8).signExtend 16).toNat / 256 = (0x80FD#16).toNat / 256
    ∧ (0x80FD#16 + (0x03#8).signExtend 16).toNat / 256 ≠ (0x80FD#16).toNat / 256 := by decide

theorem witness_JmpLoadsPc : (handlers).plain = true ∧ (0x01FF#16).toNat % 256 = 255 := by decide

/-- JSR with S = 00, so that its two pushes wrap within page 1, and the state RTS starts from. -/
theorem witness_RtsUndoesJsr :
    let s := start [] (sp := 0x00)
    (∃ cells, s.onRam cells)
      ∧ ∃ t, exec (.jsr 0x9000) s = .next t ∧ ∃ t' : State, t'.sp = t.sp ∧ t'.devices = t.devices :=
  ⟨⟨_, rfl, by decide⟩, _, rfl, _, rfl, rfl⟩

theorem witness_PushesWriteStack :
    (Instr.pha, 0x42#8) ∈ [(Instr.pha, (start [] (a := 0x42)).a), (.php, (start []).p ||| 0x30)]
    ∧ (Instr.php, 0x30#8) ∈ [(Instr.pha, (start []).a), (.php, (start []).p ||| 0x30)] := by decide

theorem witness_FlagInstructionsWriteOneBit :
    let s := start [] (p := 0xFF)
    let forms := [(Instr.clc, Flag.c, false, s.p &&& 0xFE), (.cld, .d, false, s.p &&& 0xF7),
      (.cli, .i, false, s.p &&& 0xFB), (.clv, .v, false, s.p &&& 0xBF), (.sec, .c, true, s.p ||| 0x01),
      (.sed, .d, true, s.p ||| 0x08), (.sei, .i, true, s.p ||| 0x04)]
    (Instr.clc, Flag.c, false, 0xFE#8) ∈ forms ∧ (Instr.clv, Flag.v, false, 0xBF#8) ∈ forms
      ∧ (Instr.cli, Flag.i, false, 0xFB#8) ∈ forms ∧ (Instr.sei, Flag.i, true, 0xFF#8) ∈ forms := by decide

theorem witness_NoOperationsOnlyTakeCycles :
    (∃ row ∈ undocumentedCycles, 0x02#8 ∈ row.2) ∧ (∃ row ∈ undocumentedCycles, 0xFF#8 ∈ row.2)
      ∧ Instr.nop.mnemonic = .nop ∧ (Instr.xxx 0xFF).mnemonic = .xxx
      ∧ State.reset.params = defaultParams := by decide

/-- Each BRK_MODE, in the fetching state after reset. -/
theorem witness_BrkLengthFollowsBrkMode :
    ∀ m : BrkMode, let s := { State.reset with cycles := 0, params := Params.of m baseCycles }
      s.params.brkMode = m ∧ s.onRam [] ∧ s.peek s.pc = 0x00 ∧ s.resetDone = true ∧ s.cycles = 0 :=
  fun _ => ⟨rfl, ⟨rfl, rfl⟩, rfl, rfl, rfl⟩

theorem witness_InterruptsEnterHandler :
    (handlers (p := 0x24)).flag .i = true ∧ (handlers).flag .i = false := by decide

/-- S = 01, so that the three pushes wrap; the three causes. -/
theorem witness_StackedBreakFlagTellsCause :
    let s := start [] (sp := 0x01)
    (∃ cells, s.onRam cells) ∧ (∃ t, exec .brk s = .next t) ∧ s.flag .i = false :=
  ⟨⟨_, rfl, by decide⟩, ⟨_, rfl⟩, rfl⟩

theorem witness_RtiUndoesEntry :
    let s := start [] (sp := 0x01)
    (∃ cells, s.onRam cells) ∧ s.flag .i = false
      ∧ (∃ t' : State, t'.sp = s.irq.sp ∧ t'.devices = s.irq.devices)
      ∧ (∃ t' : State, t'.sp = s.nmi.sp ∧ t'.devices = s.nmi.devices)
      ∧ ∃ t, exec .brk s = .next t ∧ ∃ t' : State, t'.sp = t.sp ∧ t'.devices = t.devices :=
  ⟨⟨_, rfl, by decide⟩, rfl, ⟨_, rfl, rfl⟩, ⟨_, rfl, rfl⟩, _, rfl, _, rfl, rfl⟩

theorem witness_ConsecutiveInterrupts :
    (∃ cells, (handlers).onRam cells) ∧ (handlers).flag .i = false ∧ (handlers).irq.plain = true :=
  ⟨witness_onRam, by decide, by decide⟩

theorem witness_EightClocksAfterReset : (handlers).plain = true ∧ ∃ cells, (handlers).onRam cells :=
  ⟨by decide, witness_onRam⟩

theorem witness_CommandsBeforeResetAreRefused :
    (State.constructed defaultParams [Device.ram]).resetDone = false ∧ HostCommand.clock ≠ .reset
      ∧ State.reset.resetDone = true ∧ State.reset.cycles ≠ 0 := ⟨rfl, by decide, rfl, by decide⟩

theorem witness_TotalCyclesCountsClocks :
    (∃ t, command .clock State.reset = .next t) ∧ (∃ t, command .clock handlers = .next t)
      ∧ (∃ t, command .irq handlers = .next t) ∧ (∃ t, command .nmi handlers = .next t)
      ∧ ∃ t, command .reset handlers = .next t := ⟨⟨_, rfl⟩, ⟨_, rfl⟩, ⟨_, rfl⟩, ⟨_, rfl⟩, ⟨_, rfl⟩⟩

theorem witness_NotificationsNameChanges :
    (State.reset.resetDone = true ∧ State.reset.cycles ≠ 0 ∧ ∃ t, command .clock State.reset = .next t)
      ∧ ∃ t, command .clock handlers = .next t := ⟨⟨rfl, by decide, _, rfl⟩, _, rfl⟩

theorem witness_NothingFaultsOrIsRefused : State.reset.resetDone = true := rfl

/-- A fetch at the top of the address space, whose operand bytes are at 0000 and 0001; one with Clock in the
list of commands; one of a one-byte instruction; BRK on a machine whose BRK_MODE is IMP; and, on a bus with a
device that is no plain memory, a three-byte instruction and BRK. -/
theorem witness_StepRunsDecodedInstruction :
    (let s := start [0x4C, 0x34, 0x12] (pc := 0xFFFF)
     s.resetDone = true ∧ s.cycles = 0 ∧ s.plain = true ∧ s.hostCommands = []
      ∧ decodeWith s.params.brkMode [s.peek s.pc, s.peek (s.pc + 1), s.peek (s.pc + 2)] = .ok (.jmpAbs 0x1234, []))
    ∧ (let s := { start [0xEA] with hostCommands := [.clock, .irq] }
       s.resetDone = true ∧ s.cycles = 0 ∧ s.plain = true ∧ s.hostCommands.head? = some .clock
        ∧ decodeWith s.params.brkMode [s.peek s.pc, s.peek (s.pc + 1), s.peek (s.pc + 2)] = .ok (.nop, [0x00, 0x00]))
    ∧ (let s := { start [0x00, 0xEA] with params := Params.of .imp baseCycles }
       s.resetDone = true ∧ s.cycles = 0 ∧ s.plain = true ∧ s.hostCommands = []
        ∧ decodeWith s.params.brkMode [s.peek s.pc, s.peek (s.pc + 1), s.peek (s.pc + 2)]
          = .ok (.brk, [0xEA, 0x00]))
    ∧ (let bus (cells : Memory) : List Device :=
         [{ Device.ram with upper := 0x8FFF, store := .memory cells },
           { lower := 0x9000, upper := 0xFFFF, readable := true, writable := true, store := .other 0 [] }]
       let decodes (cells : Memory) (i : Instr) (rest : List Byte) : Prop :=
         let s : State := { State.reset with pc := 0x8FFD, cycles := 0, devices := bus cells }
         let op := Bus.read s.devices s.pc false
         let lo := Bus.read op.2 (s.pc + 1) false
         let hi := Bus.read lo.2 (s.pc + 2) false
         s.resetDone = true ∧ s.cycles = 0 ∧ s.plain = false
           ∧ decodeWith s.params.brkMode [op.1, lo.1, hi.1] = .ok (i, rest)
       decodes [(0x8FFD, 0xAD), (0x8FFE, 0x34), (0x8FFF, 0x12)] (.ldaAbs 0x1234) []
         ∧ decodes [(0x8FFF, 0x77)] .brk [0x77]) := by decide

theorem witness_InstructionTicksCountDown :
    (handlers).resetDone = true ∧ (handlers).cycles = 0 ∧ (handlers).hostCommands = []
      ∧ (handlers).params = defaultParams
      ∧ (let s := { handlers with params := Params.of .imp fun _ => 2 }
         s.params ≠ defaultParams ∧ 2 ≤ s.baseCycles s.fetchOpcode.1) := by decide

/-- Counting down, fetching, and before the first reset. -/
theorem witness_EveryStepKeepsInvariant :
    (State.reset.Inv ∧ ∃ t, step State.reset = .next t) ∧ ((handlers).Inv ∧ ∃ t, step handlers = .next t)
      ∧ ((State.constructed defaultParams [Device.ram]).Inv
        ∧ ∃ t, step { State.constructed defaultParams [Device.ram] with hostCommands := [.reset] } = .next t) :=
  ⟨⟨by decide, _, rfl⟩, ⟨by decide, _, rfl⟩, ⟨by decide, by decide, fun h => absurd h (by decide)⟩, _, rfl⟩

/-- A memory mode, each pointer mode at the end of its page, and a fetched Immediate instruction. -/
theorem witness_FetchReadsEffectiveAddress :
    let s := start [0xA9, 0x42]
    (Operand.zp0 0xFF).mode ≠ .imp ∧ (Operand.zp0 0xFF).mode ≠ .imm
      ∧ (Operand.zp0 0xFF).mode ∉ [Mode.ind, .izx, .izy]
      ∧ s.plain = true ∧ (fetch s).1.operand = .imm 0x42 ∧ (fetch s).1 ≠ .brk
      ∧ (0x0100#16) = BitVec.ofNat 16 ((0x01FF#16).toNat - 255)
      ∧ (0x0000#16) = BitVec.ofNat 16 (((0xFF#8).toNat + s.x.toNat + 1) % 256)
      ∧ (0x0000#16) = BitVec.ofNat 16 (((0xFF#8).toNat + 1) % 256) := by decide

theorem witness_HostWritesReachDevice :
    romAndRam = [] ++ romAndRam.headD Device.ram :: romAndRam.tail ∧ ([] : List Device).length = 0
      ∧ romAndRam.length ≤ 2 ∧ ∃ cells, (handlers).onRam cells :=
  ⟨rfl, rfl, by decide, witness_onRam⟩

theorem witness_BusConfigurationIsFixed : ∃ t, step { State.reset with devices := romAndRam } = .next t := ⟨_, rfl⟩

theorem witness_OnlyListedInstructionsWriteRegisters :
    (∃ t, exec .nop State.reset = .next t)
    ∧ Instr.nop.mnemonic ∉ [Mnemonic.adc, .sbc, .and, .ora, .eor, .lda, .pla, .txa, .tya]
    ∧ Instr.nop.mnemonic ∉ [Mnemonic.txs, .pha, .php, .pla, .plp, .jsr, .rts, .rti, .brk]
    ∧ (∃ t, exec (.aslZp0 0xFF) State.reset = .next t)
    ∧ ((Instr.aslZp0 0xFF).mnemonic ∈ [Mnemonic.asl, .lsr, .rol, .ror] → (Instr.aslZp0 0xFF).operand ≠ .imp) :=
  ⟨⟨_, rfl⟩, by decide, by decide, ⟨_, rfl⟩, by decide⟩

theorem witness_OnlyListedInstructionsWriteFlags :
    (∃ t, exec (.staZp0 0xFF) State.reset = .next t)
    ∧ (Instr.staZp0 0xFF).mnemonic ∉ [Mnemonic.adc, .sbc, .cmp, .cpx, .cpy, .asl, .lsr, .rol, .ror, .clc, .sec,
        .plp, .rti]
    ∧ Instr.brk.mnemonic ∉ [Mnemonic.plp, .rti] := ⟨⟨_, rfl⟩, by decide, by decide⟩

theorem witness_OnlyListedInstructionsWriteMemory :
    (∃ t, exec .aslImp State.reset = .next t) ∧ State.reset.plain = true
    ∧ Instr.aslImp.mnemonic ∉ [Mnemonic.sta, .stx, .sty, .inc, .dec, .pha, .php, .jsr, .brk]
    ∧ Instr.aslImp.operand = .imp := ⟨⟨_, rfl⟩, by decide, by decide, rfl⟩

/-- The default machine's list, another mode and another table; and a command from a state with those parameters. -/
theorem witness_ParametersAreArguments :
    (∀ d ∈ [Device.ram], d.lower ≤ d.upper) ∧ (∃ d ∈ [Device.ram], d.readable = true)
      ∧ (∃ d ∈ [Device.ram], d.writable = true)
      ∧ ∃ t u : State, t.params = (State.constructed (Params.of .imp fun _ => 3) [Device.ram]).params
          ∧ command .reset t = .next u := ⟨by decide, by decide, by decide, _, _, rfl, rfl⟩

end Sys2Proof.Tests
end

section
/-! The parameters are kept: the fetch, every operation routine and every host command leave `params` as it is,
and construction sets it (spec 00_scope.md R7). -/

namespace Sys2Proof

/-- A parameter record is its BRK_MODE and its counts, and nothing else. -/
theorem Params.of_brkMode_base (p : Params) : Params.of p.brkMode p.base = p :=
  Params.ext_base (Params.of_brkMode p.brkMode p.base) (Params.of_base p.brkMode p.base)

end Sys2Proof

namespace Sys2Proof.Machine

/-! ## Well-formed device lists -/

/-- The check of 20_memory.md R72 as the statement about the devices it stands for. -/
theorem Bus.wellFormed_iff (ds : List Device) : Bus.wellFormed ds = true ↔
    (∀ d ∈ ds, d.lower ≤ d.upper) ∧ (∃ d ∈ ds, d.readable = true) ∧ ∃ d ∈ ds, d.writable = true := by
  simp [Bus.wellFormed, BitVec.le_def, and_assoc]

theorem construct_of_wellFormed {ds : List Device} (h : Bus.wellFormed ds = true) (p : Params) :
    construct p ds = .next (State.constructed p ds) := if_pos h

/-! ## The shared operations -/

@[simp] theorem State.addWithCarry_params (s : State) (m : Byte) : (s.addWithCarry m).params = s.params := by
  simp [State.addWithCarry]

@[simp] theorem State.branch_params (s : State) (cond : Bool) : (s.branch cond).params = s.params := by
  cases cond <;> rfl

@[simp] theorem State.writeBack_params (s : State) (o : Operand) (r : Byte) :
    (s.writeBack o r).params = s.params := by
  cases o <;> rfl

theorem shiftOp_params (f : Byte → Bool → Shifted) (o : Operand) (s : State) :
    (shiftOp f o s).1.params = s.params := by
  simp [shiftOp]

/-! ## Handlers -/

@[simp] theorem State.enterHandler_params (s : State) (stacked live : Byte) (vector : Word) :
    (s.enterHandler stacked live vector).params = s.params := by
  rw [State.enterHandler_eq]

@[simp] theorem State.returnFromHandler_params (s : State) : s.returnFromHandler.params = s.params := by
  rw [State.returnFromHandler_eq]

/-! ## Instructions -/

/-- What an operation routine goes through (fetch(), the addition, a shift's write-back, the branch, a handler)
keeps the parameters; a routine with none of these is an update of other fields, written out. -/
theorem operation_params (i : Instr) (o : Operand) (s : State) : (i.operation o s).1.params = s.params := by
  unfold Instr.operation
  cases i.mnemonic
  case adc | sbc => simp [opAdc, opSbc]
  case lda | ldx | ldy | and | ora | eor | bit | cmp | cpx | cpy | inc | dec =>
    exact s.fetchOperand_params o
  case asl | lsr | rol | ror => exact shiftOp_params _ o s
  case bcc | bcs | beq | bmi | bne | bpl | bvc | bvs => exact s.branch_params _
  case brk => simp [opBrk]
  case rti => simp [opRti]
  case sta | stx | sty | tax | tay | tsx | txa | txs | tya | inx | iny | dex | dey | jmp | jsr | rts | pha
      | php | pla | plp | clc | cld | cli | clv | sec | sed | sei | nop | xxx => rfl

theorem exec_params {i : Instr} {s t : State} (h : exec i s = .next t) : t.params = s.params := by
  rw [exec_eq_runOp, runOp_eq] at h
  cases h
  simp [operation_params]

@[simp] theorem State.readPc_params (s : State) : s.readPc.2.params = s.params := rfl

@[simp] theorem State.fetchOpcode_params (s : State) : s.fetchOpcode.2.params = s.params := rfl

theorem fetch_params (s : State) : (fetch s).2.params = s.params := by
  cases hform : formOf s.fetchOpcode.1
  case brk => cases hm : s.params.brkMode <;> simp [fetch, fetchWith, hform, hm]
  case whole | byte | addr => simp [fetch, fetchWith, hform]

/-! ## Host commands -/

theorem clock_params {s t : State} (h : clock s = .next t) : t.params = s.params := by
  by_cases hc : s.cycles = 0
  · simp only [clock, if_pos hc, exec_eq_runOp] at h
    cases h
    simpa [fetch_params] using exec_params (exec_eq_runOp (fetch s).1 (fetch s).2)
  · simp only [clock, if_neg hc] at h
    cases h
    exact s.tick_params

@[simp] theorem State.irq_params (s : State) : s.irq.params = s.params := by
  unfold State.irq
  split
  · rfl
  · simp

@[simp] theorem State.nmi_params (s : State) : s.nmi.params = s.params := by
  simp [State.nmi]

@[simp] theorem State.resetCommand_params (s : State) : s.resetCommand.params = s.params := rfl

/-- A command other than Reset that answers a next state was accepted because a reset has run
(70_reset_and_hazards.md R323). -/
theorem next_of_accepted {b : Bool} {r : Refusal} {out : Host.Outcome State Fault Refusal} {t : State}
    (h : (if b then out else .refused r) = .next t) : out = .next t := by
  cases b
  · cases h
  · exact h

theorem command_params {c : HostCommand} {s t : State} (h : command c s = .next t) : t.params = s.params := by
  cases c
  case clock => exact clock_params (next_of_accepted h)
  case reset => cases h; exact s.resetCommand_params
  case irq => cases next_of_accepted h; exact s.irq_params
  case nmi => cases next_of_accepted h; exact s.nmi_params

/-- Settles O60: construction sets the parameters (`construct_of_wellFormed`), every command keeps them
(`command_params`), and the record is its mode and its counts (`Params.of_brkMode_base`). -/
theorem parametersAreArguments : Obligations.ParametersAreArguments := by
  refine ⟨fun m f ds hrange hread hwrite => ?_, fun p => ?_, rfl, fun _ => rfl, rfl, rfl⟩
  · have hds := (Bus.wellFormed_iff ds).2 ⟨hrange, hread, hwrite⟩
    refine ⟨_, construct_of_wellFormed hds _, rfl, rfl, Params.of_base m f, fun c t u ht hu => ?_⟩
    have hparams : u.params = Params.of m f := (command_params hu).trans ht
    simp [State.baseCycles, hparams]
  · exact p.of_brkMode_base

end Sys2Proof.Machine
end

section
/-! What running an instruction comes to: one addressing routine, one operation routine and an extra cycle
(spec 40_execution_and_addressing.md R131). -/

namespace Sys2Proof

open Sys2Proof.Machine

/-- The state an instruction's operation routine starts from: its base count set, its addressing routine run. -/
def Instr.resolved (i : Instr) (s : State) : State :=
  { ((i.operandWith s.params.brkMode).resolve s).1 with cycles := s.baseCycles i.opcode }

@[simp] theorem Instr.resolved_p (i : Instr) (s : State) : (i.resolved s).p = s.p :=
  Operand.resolve_p _ s

@[simp] theorem Instr.resolved_cycles (i : Instr) (s : State) : (i.resolved s).cycles = s.baseCycles i.opcode := rfl

@[simp] theorem Instr.resolved_reg (i : Instr) (s : State) (r : Reg) : (i.resolved s).reg r = s.reg r := by
  cases r <;> simp [Instr.resolved, State.reg]

end Sys2Proof

namespace Sys2Proof.Machine

/-- An instruction's answer is its operation routine's, with at most one cycle more. -/
theorem exec_cases {i : Instr} {s t : State} (h : exec i s = .next t) :
    ∃ extra : Bool,
      let u := (i.operation (i.operandWith s.params.brkMode) (i.resolved s)).1
      t = { u with cycles := u.cycles + bit extra } := by
  rw [exec_eq_runOp, runOp_eq] at h
  cases h
  exact ⟨_, rfl⟩

end Sys2Proof.Machine
end

section
/-! The bus under every operation: no access changes a device's range, direction flags or place (spec 10_state.md
R41), and every access keeps the backing stores canonical (20_memory.md R71). -/

namespace Sys2Proof.Machine

/-! ## What any number of bus accesses keeps -/

/-- What bus accesses leave of a device list: the configuration, and the canonical form where it held. -/
def Bus.Kept (ds es : List Device) : Prop :=
  es.map Device.config = ds.map Device.config
    ∧ (ds.all Device.canonical = true → es.all Device.canonical = true)

theorem Bus.Kept.refl (ds : List Device) : Bus.Kept ds ds := ⟨rfl, id⟩

theorem Bus.Kept.trans {ds es fs : List Device} (h : Bus.Kept ds es) (h' : Bus.Kept es fs) : Bus.Kept ds fs :=
  ⟨h'.1.trans h.1, h'.2 ∘ h.2⟩

theorem Bus.Kept.read {ds es : List Device} (h : Bus.Kept ds es) (a : Word) (ro : Bool) :
    Bus.Kept ds (Bus.read es a ro).2 :=
  h.trans ⟨Bus.read_config es a ro, fun hc => Bus.read_canonical hc a ro⟩

theorem Bus.Kept.write {ds es : List Device} (h : Bus.Kept ds es) (a : Word) (v : Byte) :
    Bus.Kept ds (Bus.write es a v) :=
  h.trans ⟨Bus.write_config es a v, fun hc => Bus.write_canonical hc a v⟩

/-! ## The shared operations -/

theorem resolve_busKept (o : Operand) (s : State) : Bus.Kept s.devices (o.resolve s).1.devices :=
  ⟨o.resolve_busConfig s, o.resolve_canonical⟩

theorem State.fetchOperand_busKept (s : State) (o : Operand) : Bus.Kept s.devices (s.fetchOperand o).2.devices :=
  ⟨s.fetchOperand_busConfig o, State.fetchOperand_canonical o⟩

theorem State.writeBack_busKept (s : State) (o : Operand) (r : Byte) :
    Bus.Kept s.devices (s.writeBack o r).devices := by
  cases o
  case imp => exact .refl _
  all_goals exact (Bus.Kept.refl _).write _ _

theorem shiftOp_busKept (f : Byte → Bool → Shifted) (o : Operand) (s : State) :
    Bus.Kept s.devices (shiftOp f o s).1.devices :=
  (s.fetchOperand_busKept o).trans (State.writeBack_busKept _ o _)

@[simp] theorem State.addWithCarry_devices (s : State) (m : Byte) : (s.addWithCarry m).devices = s.devices := by
  simp [State.addWithCarry]

theorem State.branch_busKept (s : State) (cond : Bool) : Bus.Kept s.devices (s.branch cond).devices := by
  cases cond <;> exact .refl _

theorem State.enterHandler_busKept (s : State) (stacked live : Byte) (vector : Word) :
    Bus.Kept s.devices (s.enterHandler stacked live vector).devices := by
  rw [State.enterHandler_eq]
  have pushes : Bus.Kept s.devices (devicesAfterEntry s stacked) :=
    (((Bus.Kept.refl _).write _ _).write _ _).write _ _
  exact (pushes.read _ _).read _ _

theorem State.returnFromHandler_busKept (s : State) : Bus.Kept s.devices s.returnFromHandler.devices := by
  rw [State.returnFromHandler_eq]
  exact (((Bus.Kept.refl _).read _ _).read _ _).read _ _

/-! ## Instructions -/

/-- The bus accesses of each operation routine, in their order. -/
theorem operation_busKept (i : Instr) (o : Operand) (s : State) :
    Bus.Kept s.devices (i.operation o s).1.devices := by
  unfold Instr.operation
  cases i.mnemonic
  case adc | sbc => simpa [opAdc, opSbc] using s.fetchOperand_busKept o
  case lda | ldx | ldy | and | ora | eor | bit | cmp | cpx | cpy => exact s.fetchOperand_busKept o
  case inc | dec => exact (s.fetchOperand_busKept o).write _ _
  case asl | lsr | rol | ror => exact shiftOp_busKept _ o s
  case bcc | bcs | beq | bmi | bne | bpl | bvc | bvs => exact s.branch_busKept _
  case sta | stx | sty | pha | php => exact (Bus.Kept.refl _).write _ _
  case jsr => exact ((Bus.Kept.refl _).write _ _).write _ _
  case pla | plp => exact (Bus.Kept.refl _).read _ _
  case rts => exact ((Bus.Kept.refl _).read _ _).read _ _
  case brk => exact State.enterHandler_busKept { s with pc := s.pc + 1 } _ _ _
  case rti => exact s.returnFromHandler_busKept
  case tax | tay | tsx | txa | txs | tya | inx | iny | dex | dey | jmp | clc | cld | cli | clv | sec | sed | sei
      | nop | xxx => exact .refl _

theorem exec_busKept {i : Instr} {s t : State} (h : exec i s = .next t) : Bus.Kept s.devices t.devices := by
  obtain ⟨extra, rfl⟩ := exec_cases h
  exact (resolve_busKept _ s).trans (operation_busKept i _ (i.resolved s))

theorem fetch_busKept (s : State) : Bus.Kept s.devices (fetch s).2.devices := by
  have opcode : Bus.Kept s.devices s.fetchOpcode.2.devices := (Bus.Kept.refl _).read _ _
  cases hform : formOf s.fetchOpcode.1 <;> simp only [fetch, fetchWith, hform]
  case whole => exact opcode
  case byte => exact opcode.read _ _
  case addr => exact (opcode.read _ _).read _ _
  case brk => cases s.params.brkMode <;> exact opcode

/-! ## Host commands -/

/-- What a clock() does (40_execution_and_addressing.md R131): with cycles left it only counts down, otherwise it
runs the instruction it fetches, sets U and counts. -/
theorem clock_cases {s t : State} (h : clock s = .next t) :
    (s.cycles ≠ 0 ∧ t = s.tick)
      ∨ ∃ u, exec (fetch s).1 (fetch s).2 = .next u ∧ t = (u.setFlag .u true).tick := by
  by_cases hc : s.cycles = 0
  · simp only [clock, if_pos hc, exec_eq_runOp] at h
    cases h
    exact .inr ⟨_, exec_eq_runOp _ _, rfl⟩
  · simp only [clock, if_neg hc] at h
    cases h
    exact .inl ⟨hc, rfl⟩

/-- A command that needs a reset and answers a next state was given after one (70_reset_and_hazards.md R323). -/
theorem accepted_of_next {b : Bool} {r : Refusal} {out : Host.Outcome State Fault Refusal} {t : State}
    (h : (if b then out else .refused r) = .next t) : b = true := by
  cases b
  · cases h
  · rfl

/-- What an accepted command does (40_execution_and_addressing.md R130, 70_reset_and_hazards.md R323): reset() at
any time, every other command once a reset has run. -/
theorem command_cases {c : HostCommand} {s t : State} (h : command c s = .next t) :
    t = s.resetCommand ∨ s.resetDone = true ∧ (clock s = .next t ∨ t = s.irq ∨ t = s.nmi) := by
  cases c
  case reset => cases h; exact .inl rfl
  case clock => exact .inr ⟨accepted_of_next h, .inl (next_of_accepted h)⟩
  case irq => cases next_of_accepted h; exact .inr ⟨accepted_of_next h, .inr (.inl rfl)⟩
  case nmi => cases next_of_accepted h; exact .inr ⟨accepted_of_next h, .inr (.inr rfl)⟩

theorem clock_busKept {s t : State} (h : clock s = .next t) : Bus.Kept s.devices t.devices := by
  obtain ⟨-, rfl⟩ | ⟨u, hu, rfl⟩ := clock_cases h
  · exact .refl _
  · have run : Bus.Kept s.devices u.devices := (fetch_busKept s).trans (exec_busKept hu)
    exact run

theorem State.irq_busKept (s : State) : Bus.Kept s.devices s.irq.devices := by
  unfold State.irq
  split
  · exact .refl _
  · exact s.enterHandler_busKept (interruptStatus s.p) (interruptStatus s.p) irqVector

theorem State.nmi_busKept (s : State) : Bus.Kept s.devices s.nmi.devices :=
  s.enterHandler_busKept (interruptStatus s.p) (interruptStatus s.p) nmiVector

theorem State.resetCommand_busKept (s : State) : Bus.Kept s.devices s.resetCommand.devices :=
  ((Bus.Kept.refl _).read _ _).read _ _

theorem command_busKept {c : HostCommand} {s t : State} (h : command c s = .next t) :
    Bus.Kept s.devices t.devices := by
  obtain rfl | ⟨-, hclock | rfl | rfl⟩ := command_cases h
  · exact s.resetCommand_busKept
  · exact clock_busKept hclock
  · exact s.irq_busKept
  · exact s.nmi_busKept

/-! ## Taking the next command -/

@[simp] theorem State.nextCommand_devices (s : State) : s.nextCommand.2.devices = s.devices := by
  unfold State.nextCommand
  split <;> rfl

@[simp] theorem State.nextCommand_params (s : State) : s.nextCommand.2.params = s.params := by
  unfold State.nextCommand
  split <;> rfl

/-- Settles O54: the devices by `command_busKept`, the parameters by `command_params`. -/
theorem busConfigurationIsFixed : Obligations.BusConfigurationIsFixed := by
  intro s t h
  obtain ⟨hconfig, -⟩ := command_busKept h
  have hparams : t.params = s.nextCommand.2.params := command_params h
  rw [s.nextCommand_devices] at hconfig
  exact ⟨hconfig, hparams.trans s.nextCommand_params⟩

end Sys2Proof.Machine
end

section
/-! The machine invariant: every step keeps the bus well formed, the backing stores canonical, U set after the
first reset and, with the default cycle table, at most 8 cycles remaining (spec 10_state.md R31, R36). -/

namespace Sys2Proof.Machine

/-! ## The cycle count of an instruction -/

/-- The mnemonics that run the common branch rule (44_control_flow.md R230). -/
def branchMnemonics : List Mnemonic := [.bcc, .bcs, .beq, .bmi, .bne, .bpl, .bvc, .bvs]

theorem baseCycles_of_branch {i : Instr} (h : i.mnemonic ∈ branchMnemonics) : baseCycles i.opcode = 2 := by
  have table : ∀ op ∈ [0x90#8, 0xB0, 0xF0, 0x30, 0xD0, 0x10, 0x50, 0x70], baseCycles op = 2 := by decide
  cases i <;> simp [Instr.mnemonic, branchMnemonics] at h <;> exact table _ (by simp [Instr.opcode])

theorem State.branch_cycles_bounds (s : State) (cond : Bool) :
    s.cycles ≤ (s.branch cond).cycles ∧ (s.branch cond).cycles ≤ s.cycles + 2 := by
  cases cond
  · simp [State.branch]
  · simp only [State.branch, if_true, bit]
    split <;> omega

@[simp] theorem State.addWithCarry_cycles (s : State) (m : Byte) : (s.addWithCarry m).cycles = s.cycles := by
  simp [State.addWithCarry]

@[simp] theorem State.writeBack_cycles (s : State) (o : Operand) (r : Byte) :
    (s.writeBack o r).cycles = s.cycles := by
  cases o <;> rfl

theorem shiftOp_cycles (f : Byte → Bool → Shifted) (o : Operand) (s : State) :
    (shiftOp f o s).1.cycles = s.cycles := by
  simp [shiftOp]

@[simp] theorem State.enterHandler_cycles (s : State) (stacked live : Byte) (vector : Word) :
    (s.enterHandler stacked live vector).cycles = s.cycles := by
  rw [State.enterHandler_eq]

@[simp] theorem State.returnFromHandler_cycles (s : State) : s.returnFromHandler.cycles = s.cycles := by
  rw [State.returnFromHandler_eq]

/-- Only a taken branch adds to `cycles` in an operation routine. -/
theorem operation_cycles (i : Instr) (o : Operand) (s : State) :
    (i.operation o s).1.cycles = s.cycles
      ∨ i.mnemonic ∈ branchMnemonics ∧ s.cycles ≤ (i.operation o s).1.cycles
        ∧ (i.operation o s).1.cycles ≤ s.cycles + 2 := by
  unfold Instr.operation
  cases i.mnemonic
  case bcc | bcs | beq | bmi | bne | bpl | bvc | bvs => exact .inr ⟨by decide, s.branch_cycles_bounds _⟩
  case adc | sbc => exact .inl (by simp [opAdc, opSbc])
  case lda | ldx | ldy | and | ora | eor | bit | cmp | cpx | cpy | inc | dec =>
    exact .inl (s.fetchOperand_cycles o)
  case asl | lsr | rol | ror => exact .inl (shiftOp_cycles _ o s)
  case brk => exact .inl (State.enterHandler_cycles _ _ _ _)
  case rti => exact .inl s.returnFromHandler_cycles
  case sta | stx | sty | tax | tay | tsx | txa | txs | tya | inx | iny | dex | dey | jmp | jsr | rts | pha
      | php | pla | plp | clc | cld | cli | clv | sec | sed | sei | nop | xxx => exact .inl rfl

/-- An instruction's own count at the default parameters: a page cross adds 1 to a base of at most 8, and a branch,
which has no page-cross cycle, adds at most 2 to its base of 2. -/
theorem exec_cycles_bounds {i : Instr} {s t : State} (h : exec i s = .next t) (hp : s.params = defaultParams) :
    1 ≤ t.cycles ∧ t.cycles ≤ 9 := by
  obtain ⟨extra, rfl⟩ := exec_cases h
  have hextra : bit extra ≤ 1 := by cases extra <;> decide
  have hbase := baseCycles_range i.opcode
  have hop := operation_cycles i (i.operandWith s.params.brkMode) (i.resolved s)
  rw [Instr.resolved_cycles, State.baseCycles_default hp] at hop
  obtain hop | ⟨hbranch, hlo, hhi⟩ := hop
  · dsimp only
    omega
  · rw [baseCycles_of_branch hbranch] at hlo hhi
    dsimp only
    omega

/-- With the default table a clock() never leaves more than 8 cycles. -/
theorem clock_cycles_le {s t : State} (h : clock s = .next t) (hp : s.params = defaultParams) (hs : s.cycles ≤ 8) :
    t.cycles ≤ 8 := by
  obtain ⟨hc, rfl⟩ | ⟨u, hu, rfl⟩ := clock_cases h
  · rw [State.tick_cycles, countDown_pos hc]
    omega
  · obtain ⟨hlo, hhi⟩ := exec_cycles_bounds hu ((fetch_params s).trans hp)
    rw [State.tick_cycles, State.setFlag_cycles, countDown_pos (by omega)]
    omega

/-! ## U -/

@[simp] theorem State.enterHandler_p (s : State) (stacked live : Byte) (vector : Word) :
    (s.enterHandler stacked live vector).p = live := by
  rw [State.enterHandler_eq]

/-- The status irq() and nmi() leave has U set (60_exceptions.md R283). -/
theorem interruptStatus_u (p : Byte) : getFlag (interruptStatus p) .u = true := by
  simp [interruptStatus]

theorem clock_flag_u {s t : State} (h : clock s = .next t) (hs : s.flag .u = true) : t.flag .u = true := by
  obtain ⟨-, rfl⟩ | ⟨u, -, rfl⟩ := clock_cases h
  · exact hs
  · exact u.flag_setFlag .u .u true

/-! ## U and the bound, after any command -/

/-- What the invariant asks of a machine that has been reset, the bus apart. -/
def State.Running (s : State) : Prop := s.flag .u = true ∧ (s.params = defaultParams → s.cycles ≤ 8)

theorem State.resetCommand_running (s : State) : s.resetCommand.Running :=
  ⟨getFlag_putFlag 0x00 .u .u true, fun _ => Nat.le_refl 8⟩

theorem State.irq_running {s : State} (h : s.Running) : s.irq.Running := by
  unfold State.irq
  split
  · exact h
  · exact ⟨by simp [State.flag, interruptStatus_u], fun _ => (by decide : 7 ≤ 8)⟩

theorem State.nmi_running (s : State) : s.nmi.Running :=
  ⟨by simp [State.flag, State.nmi, interruptStatus_u], fun _ => Nat.le_refl 8⟩

theorem command_running {c : HostCommand} {s t : State} (h : command c s = .next t)
    (hs : s.resetDone = true → s.Running) : t.Running := by
  obtain rfl | ⟨hd, hclock | rfl | rfl⟩ := command_cases h
  · exact s.resetCommand_running
  · obtain ⟨hu, hle⟩ := hs hd
    refine ⟨clock_flag_u hclock hu, fun hp => ?_⟩
    have hp' : s.params = defaultParams := (clock_params hclock).symm.trans hp
    exact clock_cycles_le hclock hp' (hle hp')
  · exact State.irq_running (hs hd)
  · exact s.nmi_running

theorem command_inv {c : HostCommand} {s t : State} (hs : s.Inv) (h : command c s = .next t) : t.Inv := by
  obtain ⟨hwf, hcanonical, hrunning⟩ := hs
  obtain ⟨hconfig, hkept⟩ := command_busKept h
  exact ⟨(Bus.wellFormed_of_config hconfig).trans hwf, hkept hcanonical, fun _ => command_running h hrunning⟩

/-- Taking a command from the host's list touches nothing the invariant speaks of. -/
theorem State.nextCommand_inv {s : State} (h : s.Inv) : s.nextCommand.2.Inv := by
  unfold State.nextCommand
  split <;> exact h

/-- Settles O52: a step is a command on the state the command was taken from, and every command keeps the
invariant: the bus by `command_busKept`, U and the bound by `command_running`. -/
theorem everyStepKeepsInvariant : Obligations.EveryStepKeepsInvariant :=
  fun _ _ hs h => command_inv (State.nextCommand_inv hs) h

end Sys2Proof.Machine
end

section
/-! The registers and flags each mnemonic writes, and that its instructions write no other (spec 10_state.md
R21-R33 and its summary table). -/

namespace Sys2Proof

open Sys2Proof.Machine

/-- Every mnemonic, for a check of all of them by evaluation. -/
def Mnemonic.all : List Mnemonic :=
  [.lda, .ldx, .ldy, .sta, .stx, .sty, .tax, .tay, .tsx, .txa, .txs, .tya, .adc, .sbc, .and, .ora, .eor, .bit,
    .cmp, .cpx, .cpy, .inc, .dec, .inx, .iny, .dex, .dey, .asl, .lsr, .rol, .ror, .bcc, .bcs, .beq, .bmi, .bne,
    .bpl, .bvc, .bvs, .jmp, .jsr, .rts, .pha, .php, .pla, .plp, .clc, .cld, .cli, .clv, .sec, .sed, .sei, .nop,
    .brk, .rti, .xxx]

theorem Mnemonic.mem_all (m : Mnemonic) : m ∈ Mnemonic.all := by
  cases m <;> decide

/-- The registers an instruction of a mnemonic may write: a shift writes A in its Implied form and memory in
every other (43_shift_rotate.md R220). -/
def Mnemonic.regsWritten (m : Mnemonic) (implied : Bool) : List Reg :=
  match m with
  | .lda | .adc | .sbc | .and | .ora | .eor | .txa | .tya => [.a]
  | .ldx | .tax | .tsx | .inx | .dex => [.x]
  | .ldy | .tay | .iny | .dey => [.y]
  | .asl | .lsr | .rol | .ror => if implied then [.a] else []
  | .pla => [.a, .sp]
  | .txs | .pha | .php | .plp | .jsr | .rts | .brk | .rti => [.sp]
  | .sta | .stx | .sty | .bit | .cmp | .cpx | .cpy | .inc | .dec | .bcc | .bcs | .beq | .bmi | .bne | .bpl | .bvc
  | .bvs | .jmp | .clc | .cld | .cli | .clv | .sec | .sed | .sei | .nop | .xxx => []

/-- The flags an instruction of a mnemonic may write. -/
def Mnemonic.flagsWritten : Mnemonic → List Flag
  | .adc | .sbc => [.c, .z, .v, .n]
  | .cmp | .cpx | .cpy | .asl | .lsr | .rol | .ror => [.c, .z, .n]
  | .bit => [.z, .v, .n]
  | .lda | .ldx | .ldy | .tax | .tay | .tsx | .txa | .tya | .and | .ora | .eor | .inc | .dec | .inx | .iny | .dex
  | .dey | .pla => [.z, .n]
  | .clc | .sec => [.c]
  | .cld | .sed => [.d]
  | .cli | .sei => [.i]
  | .clv => [.v]
  | .brk => [.i, .b]
  | .plp | .rti => [.c, .z, .i, .d, .b, .u, .v, .n]
  | .sta | .stx | .sty | .txs | .bcc | .bcs | .beq | .bmi | .bne | .bpl | .bvc | .bvs | .jmp | .jsr | .rts | .pha
  | .php | .nop | .xxx => []

/-- BRK_MODE does not tell which registers an instruction writes: BRK writes S in both modes. -/
theorem Instr.regsWritten_operandWith (i : Instr) (m : BrkMode) :
    i.mnemonic.regsWritten (i.operandWith m = .imp) = i.mnemonic.regsWritten (i.operand = .imp) := by
  by_cases h : i.mnemonic = .brk
  · rw [h]
    rfl
  · rw [Instr.operandWith_eq m h]

end Sys2Proof

namespace Sys2Proof.Machine

/-! ## Registers -/

/-- Two states that agree on the other registers agree on every register but A. -/
theorem State.reg_of_ne_a {s t : State} {r : Reg} (h : r ≠ .a) (hx : t.x = s.x) (hy : t.y = s.y)
    (hsp : t.sp = s.sp) : t.reg r = s.reg r := by
  cases r
  case a => exact absurd rfl h
  all_goals assumption

theorem State.reg_of_ne_x {s t : State} {r : Reg} (h : r ≠ .x) (ha : t.a = s.a) (hy : t.y = s.y)
    (hsp : t.sp = s.sp) : t.reg r = s.reg r := by
  cases r
  case x => exact absurd rfl h
  all_goals assumption

theorem State.reg_of_ne_y {s t : State} {r : Reg} (h : r ≠ .y) (ha : t.a = s.a) (hx : t.x = s.x)
    (hsp : t.sp = s.sp) : t.reg r = s.reg r := by
  cases r
  case y => exact absurd rfl h
  all_goals assumption

theorem State.reg_of_ne_sp {s t : State} {r : Reg} (h : r ≠ .sp) (ha : t.a = s.a) (hx : t.x = s.x)
    (hy : t.y = s.y) : t.reg r = s.reg r := by
  cases r
  case sp => exact absurd rfl h
  all_goals assumption

theorem State.setZN_reg (s : State) (v : Byte) (r : Reg) : (s.setZN v).reg r = s.reg r := by
  cases r <;> rfl

theorem State.memWrite_reg (s : State) (a : Word) (v : Byte) (r : Reg) : (s.memWrite a v).reg r = s.reg r := by
  cases r <;> rfl

theorem State.compare_reg (s : State) (v m : Byte) (r : Reg) : (s.compare v m).reg r = s.reg r := by
  cases r <;> rfl

theorem State.bitTest_reg (s : State) (m : Byte) (r : Reg) : (s.bitTest m).reg r = s.reg r := by
  cases r <;> rfl

theorem State.addWithCarry_reg {r : Reg} (h : r ≠ .a) (s : State) (m : Byte) :
    (s.addWithCarry m).reg r = s.reg r := by
  apply State.reg_of_ne_a h <;> simp [State.addWithCarry]

@[simp] theorem State.fetchOperand_reg (s : State) (o : Operand) (r : Reg) :
    (s.fetchOperand o).2.reg r = s.reg r := by
  cases r <;> simp [State.reg]

theorem State.branch_reg (s : State) (cond : Bool) (r : Reg) : (s.branch cond).reg r = s.reg r := by
  cases cond <;> rfl

theorem State.writeBack_reg {o : Operand} {r : Reg} (h : o = .imp → r ≠ .a) (s : State) (v : Byte) :
    (s.writeBack o v).reg r = s.reg r := by
  cases o
  case imp => exact State.reg_of_ne_a (h rfl) rfl rfl rfl
  all_goals rfl

theorem shiftOp_reg {o : Operand} {r : Reg} (h : o = .imp → r ≠ .a) (f : Byte → Bool → Shifted) (s : State) :
    (shiftOp f o s).1.reg r = s.reg r :=
  (State.writeBack_reg h _ _).trans (s.fetchOperand_reg o r)

theorem State.enterHandler_reg {r : Reg} (h : r ≠ .sp) (s : State) (stacked live : Byte) (vector : Word) :
    (s.enterHandler stacked live vector).reg r = s.reg r := by
  rw [State.enterHandler_eq]
  exact State.reg_of_ne_sp h rfl rfl rfl

theorem State.returnFromHandler_reg {r : Reg} (h : r ≠ .sp) (s : State) :
    s.returnFromHandler.reg r = s.reg r := by
  rw [State.returnFromHandler_eq]
  exact State.reg_of_ne_sp h rfl rfl rfl

/-- An operation routine keeps every register its mnemonic is not listed to write. -/
theorem operation_reg {i : Instr} {o : Operand} {r : Reg} (h : r ∉ i.mnemonic.regsWritten (o = .imp)) (s : State) :
    (i.operation o s).1.reg r = s.reg r := by
  unfold Instr.operation
  cases hm : i.mnemonic <;> rw [hm, Mnemonic.regsWritten] at h
  case adc | sbc => exact (State.addWithCarry_reg (by simpa using h) _ _).trans (s.fetchOperand_reg o r)
  case lda | and | ora | eor =>
    exact State.reg_of_ne_a (by simpa using h) (s.fetchOperand_x o) (s.fetchOperand_y o) (s.fetchOperand_sp o)
  case ldx =>
    exact State.reg_of_ne_x (by simpa using h) (s.fetchOperand_a o) (s.fetchOperand_y o) (s.fetchOperand_sp o)
  case ldy =>
    exact State.reg_of_ne_y (by simpa using h) (s.fetchOperand_a o) (s.fetchOperand_x o) (s.fetchOperand_sp o)
  case txa | tya => exact State.reg_of_ne_a (by simpa using h) rfl rfl rfl
  case tax | tsx | inx | dex => exact State.reg_of_ne_x (by simpa using h) rfl rfl rfl
  case tay | iny | dey => exact State.reg_of_ne_y (by simpa using h) rfl rfl rfl
  case bit => exact (State.bitTest_reg _ _ r).trans (s.fetchOperand_reg o r)
  case cmp | cpx | cpy => exact (State.compare_reg _ _ _ r).trans (s.fetchOperand_reg o r)
  case inc | dec =>
    exact ((State.setZN_reg _ _ r).trans (State.memWrite_reg _ _ _ r)).trans (s.fetchOperand_reg o r)
  case asl | lsr | rol | ror => exact shiftOp_reg (by rintro rfl; simpa using h) _ s
  case pla => cases r <;> simp at h <;> rfl
  case txs | pha | php | plp | jsr | rts => exact State.reg_of_ne_sp (by simpa using h) rfl rfl rfl
  case brk => exact State.enterHandler_reg (by simpa using h) { s with pc := s.pc + 1 } _ _ _
  case rti => exact State.returnFromHandler_reg (by simpa using h) s
  case bcc | bcs | beq | bmi | bne | bpl | bvc | bvs => exact s.branch_reg _ r
  case sta | stx | sty | jmp | clc | cld | cli | clv | sec | sed | sei | nop | xxx => rfl

theorem exec_reg {i : Instr} {s t : State} {r : Reg} (h : exec i s = .next t)
    (hr : r ∉ i.mnemonic.regsWritten (i.operand = .imp)) : t.reg r = s.reg r := by
  obtain ⟨extra, rfl⟩ := exec_cases h
  rw [← i.regsWritten_operandWith s.params.brkMode] at hr
  exact (operation_reg hr (i.resolved s)).trans (i.resolved_reg s r)

/-! ## Flags -/

theorem State.flag_congr {s t : State} (h : t.p = s.p) (f : Flag) : t.flag f = s.flag f := by
  simp [State.flag, h]

theorem State.flag_setFlag_other {f g : Flag} (h : g ≠ f) (s : State) (v : Bool) :
    (s.setFlag f v).flag g = s.flag g := by
  simp [h]

theorem State.flag_setZN_other {f : Flag} (h : f ∉ [Flag.z, .n]) (s : State) (v : Byte) :
    (s.setZN v).flag f = s.flag f := by
  simp_all [State.setZN]

theorem State.flag_compare_other {f : Flag} (h : f ∉ [Flag.c, .z, .n]) (s : State) (r m : Byte) :
    (s.compare r m).flag f = s.flag f := by
  simp_all [State.compare, State.setZN]

theorem State.flag_bitTest_other {f : Flag} (h : f ∉ [Flag.z, .v, .n]) (s : State) (m : Byte) :
    (s.bitTest m).flag f = s.flag f := by
  simp_all [State.bitTest]

theorem State.flag_addWithCarry_other {f : Flag} (h : f ∉ [Flag.c, .z, .v, .n]) (s : State) (m : Byte) :
    (s.addWithCarry m).flag f = s.flag f := by
  simp_all [State.addWithCarry, State.flag]

@[simp] theorem State.branch_p (s : State) (cond : Bool) : (s.branch cond).p = s.p := by
  cases cond <;> rfl

@[simp] theorem State.writeBack_p (s : State) (o : Operand) (r : Byte) : (s.writeBack o r).p = s.p := by
  cases o <;> rfl

theorem shiftOp_flag_other {f : Flag} (h : f ∉ [Flag.c, .z, .n]) (sh : Byte → Bool → Shifted) (o : Operand)
    (s : State) : (shiftOp sh o s).1.flag f = s.flag f := by
  simp_all [shiftOp, State.flag]

/-- BRK leaves I set and B clear and keeps the other six (45_stack_flags_system.md R263). -/
theorem opBrk_flag_other {f : Flag} (h : f ∉ [Flag.i, .b]) (o : Operand) (s : State) :
    (opBrk o s).1.flag f = s.flag f := by
  simp_all [opBrk, State.flag]

theorem State.fetchOperand_flag (s : State) (o : Operand) (f : Flag) : (s.fetchOperand o).2.flag f = s.flag f :=
  State.flag_congr (s.fetchOperand_p o) f

/-- An operation routine keeps every flag its mnemonic is not listed to write. -/
theorem operation_flag {i : Instr} {f : Flag} (h : f ∉ i.mnemonic.flagsWritten) (o : Operand) (s : State) :
    (i.operation o s).1.flag f = s.flag f := by
  unfold Instr.operation
  cases hm : i.mnemonic <;> rw [hm, Mnemonic.flagsWritten] at h
  case adc | sbc => exact (State.flag_addWithCarry_other h _ _).trans (s.fetchOperand_flag o f)
  case cmp | cpx | cpy => exact (State.flag_compare_other h _ _ _).trans (s.fetchOperand_flag o f)
  case bit => exact (State.flag_bitTest_other h _ _).trans (s.fetchOperand_flag o f)
  case lda | ldx | ldy | and | ora | eor | inc | dec =>
    exact (State.flag_setZN_other h _ _).trans (s.fetchOperand_flag o f)
  case asl | lsr | rol | ror => exact shiftOp_flag_other h _ o s
  case tax | tay | tsx | txa | tya | inx | iny | dex | dey | pla => exact State.flag_setZN_other h _ _
  case clc | cld | cli | clv | sec | sed | sei => exact State.flag_setFlag_other (by simpa using h) s _
  case brk => exact opBrk_flag_other h o s
  case plp | rti => cases f <;> exact absurd h (by decide)
  case bcc | bcs | beq | bmi | bne | bpl | bvc | bvs => exact State.flag_congr (s.branch_p _) f
  case sta | stx | sty | txs | jmp | jsr | rts | pha | php | nop | xxx => rfl

theorem exec_flag {i : Instr} {s t : State} {f : Flag} (h : exec i s = .next t)
    (hf : f ∉ i.mnemonic.flagsWritten) : t.flag f = s.flag f := by
  obtain ⟨extra, rfl⟩ := exec_cases h
  exact (operation_flag hf _ (i.resolved s)).trans (State.flag_congr (i.resolved_p s) f)

/-! ## The spec's lists -/

/-- Settles O55: the spec's list of a register's writers holds every mnemonic that may write it, so `exec_reg`
applies to the others. -/
theorem onlyListedInstructionsWriteRegisters : Obligations.OnlyListedInstructionsWriteRegisters := by
  intro i s t h
  have keeps {r : Reg} (writers : List Mnemonic)
      (hw : ∀ m ∈ Mnemonic.all, ∀ implied, r ∈ m.regsWritten implied → m ∈ writers)
      (hi : i.mnemonic ∉ writers) : t.reg r = s.reg r := exec_reg h (mt (hw _ (Mnemonic.mem_all _) _) hi)
  have writersOfA : ∀ m ∈ Mnemonic.all, ∀ implied, Reg.a ∈ m.regsWritten implied →
      m ∈ [Mnemonic.adc, .sbc, .and, .ora, .eor, .lda, .pla, .txa, .tya]
        ∨ m ∈ [Mnemonic.asl, .lsr, .rol, .ror] ∧ implied = true := by decide
  refine ⟨fun hlist hshift => exec_reg (r := .a) h fun hmem => ?_, keeps (r := .x) _ (by decide),
    keeps (r := .y) _ (by decide), keeps (r := .sp) _ (by decide)⟩
  obtain hin | ⟨hin, himplied⟩ := writersOfA _ (Mnemonic.mem_all _) _ hmem
  · exact hlist hin
  · exact hshift hin (of_decide_eq_true himplied)

/-- Settles O56: the spec's list of a flag's writers holds every mnemonic that may write it, so `exec_flag` applies
to the others. -/
theorem onlyListedInstructionsWriteFlags : Obligations.OnlyListedInstructionsWriteFlags := by
  intro i s t h
  have keeps {f : Flag} (writers : List Mnemonic) (hw : ∀ m ∈ Mnemonic.all, f ∈ m.flagsWritten → m ∈ writers)
      (hi : i.mnemonic ∉ writers) : t.flag f = s.flag f := exec_flag h (mt (hw _ (Mnemonic.mem_all _)) hi)
  exact ⟨keeps _ (by decide), fun hi => ⟨keeps _ (by decide) hi, keeps _ (by decide) hi⟩, keeps _ (by decide),
    keeps _ (by decide), keeps _ (by decide), keeps _ (by decide), keeps _ (by decide)⟩

end Sys2Proof.Machine
end

section
/-! The flag instructions (spec 45_stack_flags_system.md R254-R260), and the mnemonics with one cell in the opcode
map, which theirs are. -/

namespace Sys2Proof

open Sys2Proof.Machine

/-- The one instruction of a mnemonic that has a single cell in the opcode map and no operand (30_encoding.md
R102). -/
def Mnemonic.soleForm : Mnemonic → Option Instr
  | .tax => some .tax
  | .tay => some .tay
  | .tsx => some .tsx
  | .txa => some .txa
  | .txs => some .txs
  | .tya => some .tya
  | .inx => some .inx
  | .iny => some .iny
  | .dex => some .dex
  | .dey => some .dey
  | .rts => some .rts
  | .pha => some .pha
  | .php => some .php
  | .pla => some .pla
  | .plp => some .plp
  | .clc => some .clc
  | .cld => some .cld
  | .cli => some .cli
  | .clv => some .clv
  | .sec => some .sec
  | .sed => some .sed
  | .sei => some .sei
  | .nop => some .nop
  | .brk => some .brk
  | .rti => some .rti
  | .lda | .ldx | .ldy | .sta | .stx | .sty | .adc | .sbc | .and | .ora | .eor | .bit | .cmp | .cpx | .cpy | .inc
  | .dec | .asl | .lsr | .rol | .ror | .bcc | .bcs | .beq | .bmi | .bne | .bpl | .bvc | .bvs | .jmp | .jsr
  | .xxx => none

theorem Mnemonic.mnemonic_of_soleForm {m : Mnemonic} {i : Instr} (h : m.soleForm = some i) : i.mnemonic = m := by
  cases m <;> cases h <;> rfl

theorem Instr.eq_of_soleForm {i j : Instr} (h : j.mnemonic.soleForm = some i) : j = i := by
  cases j <;> cases h <;> rfl

theorem hasForms_of_soleForm {m : Mnemonic} {i : Instr} {n : Nat} (h : m.soleForm = some i)
    (hn : baseCycles i.opcode = n) : HasForms m [(i.opcode, i.operand.mode, n)] := by
  subst hn
  constructor
  · intro j hj
    obtain rfl : j = i := Instr.eq_of_soleForm (by rw [hj, h])
    exact List.mem_singleton_self _
  · intro form hform
    exact ⟨i, Mnemonic.mnemonic_of_soleForm h, (List.mem_singleton.1 hform).symm⟩

end Sys2Proof

namespace Sys2Proof.Machine

/-! ## Interrupts around the I flag -/

theorem State.irq_of_masked {s : State} (h : s.flag .i = true) : s.irq = s := if_pos h

@[simp] theorem State.enterHandler_sp (s : State) (stacked live : Byte) (vector : Word) :
    (s.enterHandler stacked live vector).sp = s.sp - 3 := by
  rw [State.enterHandler_eq]

/-- A taken irq() sets 7 cycles and stacks three bytes (60_exceptions.md R283). -/
theorem State.irq_of_unmasked {s : State} (h : s.flag .i = false) : s.irq.cycles = 7 ∧ s.irq.sp = s.sp - 3 := by
  simp [State.irq, h]

@[simp] theorem State.nmi_sp (s : State) : s.nmi.sp = s.sp - 3 := by
  simp [State.nmi]

/-! ## Writing one flag -/

/-- What a flag instruction leaves: A copied by the Implied routine, the base count, and the one flag. -/
def State.afterFlagInstr (s : State) (i : Instr) (f : Flag) (v : Bool) : State :=
  State.setFlag { s with fetched := s.a, cycles := s.baseCycles i.opcode } f v

theorem State.afterFlagInstr_flag (s : State) (i : Instr) (f g : Flag) (v : Bool) :
    (s.afterFlagInstr i f v).flag g = if g = f then v else s.flag g :=
  getFlag_putFlag s.p f g v

theorem State.afterFlagInstr_frame (s : State) (i : Instr) (f : Flag) (v : Bool) :
    Frame [] [f] [] s (s.afterFlagInstr i f v) := by
  refine ⟨fun r _ => by cases r <;> rfl, fun g hg => ?_, rfl, rfl, rfl, rfl, rfl, rfl, fun _ _ _ _ => rfl⟩
  rw [State.afterFlagInstr_flag, if_neg (by simpa using hg)]

/-- Each flag instruction with its flag, the value it writes and the status it leaves (R254-R260). -/
def flagInstrs (s : State) : List (Instr × Flag × Bool × Byte) :=
  [(.clc, .c, false, s.p &&& 0xFE), (.cld, .d, false, s.p &&& 0xF7), (.cli, .i, false, s.p &&& 0xFB),
    (.clv, .v, false, s.p &&& 0xBF), (.sec, .c, true, s.p ||| 0x01), (.sed, .d, true, s.p ||| 0x08),
    (.sei, .i, true, s.p ||| 0x04)]

theorem exec_flagInstr {i : Instr} {s : State} {f : Flag} {v : Bool} {p : Byte} (h : (i, f, v, p) ∈ flagInstrs s) :
    exec i s = .next (s.afterFlagInstr i f v) ∧ (s.afterFlagInstr i f v).p = p := by
  simp only [flagInstrs, List.mem_cons, Prod.mk.injEq, List.not_mem_nil, or_false] at h
  obtain ⟨rfl, rfl, rfl, rfl⟩ | ⟨rfl, rfl, rfl, rfl⟩ | ⟨rfl, rfl, rfl, rfl⟩ | ⟨rfl, rfl, rfl, rfl⟩
    | ⟨rfl, rfl, rfl, rfl⟩ | ⟨rfl, rfl, rfl, rfl⟩ | ⟨rfl, rfl, rfl, rfl⟩ := h <;> exact ⟨rfl, rfl⟩

/-- Settles O34: the run is `exec_flagInstr`, the frame `State.afterFlagInstr_frame`; SEI leaves I set, which masks
irq(), and CLI clear. -/
theorem flagInstructionsWriteOneBit : Obligations.FlagInstructionsWriteOneBit := by
  refine ⟨hasForms_of_soleForm (i := .clc) rfl (by decide), hasForms_of_soleForm (i := .cld) rfl (by decide),
    hasForms_of_soleForm (i := .cli) rfl (by decide), hasForms_of_soleForm (i := .clv) rfl (by decide),
    hasForms_of_soleForm (i := .sec) rfl (by decide), hasForms_of_soleForm (i := .sed) rfl (by decide),
    hasForms_of_soleForm (i := .sei) rfl (by decide), fun s => ⟨rfl, rfl, rfl, rfl, rfl, rfl, rfl, rfl⟩,
    fun i s f v p h => ?_⟩
  obtain ⟨hexec, hp⟩ := exec_flagInstr h
  have hflag : (s.afterFlagInstr i f v).flag f = v := by simp [State.afterFlagInstr_flag]
  refine ⟨s.afterFlagInstr i f v, hexec, hp, hflag, rfl, rfl, rfl, s.afterFlagInstr_frame i f v, ?_, ?_⟩
  · rintro rfl
    obtain ⟨rfl, rfl, -⟩ : f = .i ∧ v = true ∧ p = s.p ||| 0x04 := by simpa using h
    exact ⟨State.irq_of_masked hflag, State.nmi_sp _⟩
  · rintro rfl
    obtain ⟨rfl, rfl, -⟩ : f = .i ∧ v = false ∧ p = s.p &&& 0xFB := by simpa using h
    exact State.irq_of_unmasked hflag

end Sys2Proof.Machine
end

section
/-! The bus selects the first device in registration order that handles an access (spec 20_memory.md R65-R69, R73). -/

namespace Sys2Proof.Machine

/-! ## Which device handles an access -/

/-- The handling of a read in the terms of 20_memory.md R65. -/
theorem Device.handlesRead_iff (d : Device) (a : Word) :
    d.handlesRead a = true ↔ d.lower ≤ a ∧ a ≤ d.upper ∧ d.readable = true := by
  simp [Device.handlesRead, Device.covers, BitVec.le_def, and_assoc]

theorem Device.handlesWrite_iff (d : Device) (a : Word) :
    d.handlesWrite a = true ↔ d.lower ≤ a ∧ a ≤ d.upper ∧ d.writable = true := by
  simp [Device.handlesWrite, Device.covers, BitVec.le_def, and_assoc]

/-! ## Reads -/

/-- Devices in front that do not handle a read neither see it nor change. -/
theorem Bus.read_append_of_unhandled {before : List Device} {a : Word}
    (h : ∀ d ∈ before, ¬ d.handlesRead a = true) (ds : List Device) (ro : Bool) :
    Bus.read (before ++ ds) a ro = ((Bus.read ds a ro).1, before ++ (Bus.read ds a ro).2) := by
  induction before with
  | nil => rfl
  | cons d before ih =>
    obtain ⟨hd, hbefore⟩ := List.forall_mem_cons.1 h
    simp [Bus.read, hd, ih hbefore]

theorem Bus.read_of_unhandled {ds : List Device} {a : Word} (h : ∀ d ∈ ds, ¬ d.handlesRead a = true) (ro : Bool) :
    Bus.read ds a ro = (0x00, ds) := by
  simpa [Bus.read] using Bus.read_append_of_unhandled h [] ro

theorem Bus.read_cons_of_handled {d : Device} {a : Word} (h : d.handlesRead a = true) (ds : List Device)
    (ro : Bool) : Bus.read (d :: ds) a ro = ((d.read a ro).1, (d.read a ro).2 :: ds) := if_pos h

/-- A read with `read_only = true` leaves whichever device it reaches, and so all of them (20_memory.md R73). -/
theorem Bus.read_only (ds : List Device) (a : Word) : (Bus.read ds a true).2 = ds := by
  induction ds with
  | nil => rfl
  | cons d ds ih =>
    unfold Bus.read
    split
    · simp [Device.read_only]
    · simpa using ih

/-- Settles O7: the devices that do not handle the read drop out by `Bus.read_append_of_unhandled`; if one is left,
it is read. -/
theorem busReadSelectsFirstReadable : Obligations.BusReadSelectsFirstReadable := by
  intro ds a ro
  simp only [← Device.handlesRead_iff]
  refine ⟨fun h => Bus.read_of_unhandled h ro, ?_⟩
  rintro before after d rfl hbefore hlower hupper hreadable
  have hd : d.handlesRead a = true := (d.handlesRead_iff a).2 ⟨hlower, hupper, hreadable⟩
  rw [Bus.read_append_of_unhandled hbefore, Bus.read_cons_of_handled hd]

/-- Settles O11: any device by `Bus.read_only`, plain memory by `State.memRead_plain`. -/
theorem readOnlyReadsChangeNothing : Obligations.ReadOnlyReadsChangeNothing :=
  fun s a => ⟨Bus.read_only s.devices a, fun h => State.memRead_plain h a⟩

/-! ## Writes -/

/-- Devices in front that do not handle a write neither see it nor change. -/
theorem Bus.write_append_of_unhandled {before : List Device} {a : Word}
    (h : ∀ d ∈ before, ¬ d.handlesWrite a = true) (ds : List Device) (v : Byte) :
    Bus.write (before ++ ds) a v = before ++ Bus.write ds a v := by
  induction before with
  | nil => rfl
  | cons d before ih =>
    obtain ⟨hd, hbefore⟩ := List.forall_mem_cons.1 h
    simp [Bus.write, hd, ih hbefore]

theorem Bus.write_of_unhandled {ds : List Device} {a : Word} (h : ∀ d ∈ ds, ¬ d.handlesWrite a = true) (v : Byte) :
    Bus.write ds a v = ds := by
  simpa [Bus.write] using Bus.write_append_of_unhandled h [] v

theorem Bus.write_cons_of_handled {d : Device} {a : Word} (h : d.handlesWrite a = true) (ds : List Device)
    (v : Byte) : Bus.write (d :: ds) a v = d.write a v :: ds := if_pos h

/-- Settles O8: the devices that do not handle the write drop out by `Bus.write_append_of_unhandled`; if one is
left, it is written. -/
theorem busWriteSelectsFirstWritable : Obligations.BusWriteSelectsFirstWritable := by
  intro ds a v
  simp only [← Device.handlesWrite_iff]
  refine ⟨fun h => Bus.write_of_unhandled h v, ?_⟩
  rintro before after d rfl hbefore hlower hupper hwritable
  have hd : d.handlesWrite a = true := (d.handlesWrite_iff a).2 ⟨hlower, hupper, hwritable⟩
  rw [Bus.write_append_of_unhandled hbefore, Bus.write_cons_of_handled hd]

end Sys2Proof.Machine
end

section
/-! RAM, construction and the host's writes: how a machine's memory begins, and what each kind of write leaves of it
(spec 20_memory.md R71, R72, R83, 70_reset_and_hazards.md R320, R325). -/

namespace Sys2Proof.Machine

/-! ## RAM -/

/-- A read of plain memory, with either `read_only`, gives what the host sees and changes nothing. -/
theorem State.busRead_plain {s : State} (h : s.plain = true) (a : Word) (ro : Bool) :
    Bus.read s.devices a ro = (s.peek a, s.devices) :=
  Prod.ext (Bus.read_byte_plain h a ro true) (Bus.read_plain h a ro)

theorem State.reset_onRam : State.reset.onRam [] := ⟨rfl, rfl⟩

theorem State.reset_peek (a : Word) : State.reset.peek a = 0x00 := State.onRam_peek State.reset_onRam a

/-- Settles O9: both reads are `State.busRead_plain`, the written byte is `State.onRam_peek_memWrite`. -/
theorem ramReadsLastByteWritten : Obligations.RamReadsLastByteWritten := by
  refine ⟨fun a ro => ?_, fun s cells hram a b v ro => ?_⟩
  · have hread := State.busRead_plain (State.onRam_plain State.reset_onRam) a ro
    rwa [State.reset_peek] at hread
  · have hwritten := State.onRam_memWrite hram a v
    refine ⟨⟨_, hwritten⟩, ?_, Bus.read_plain (State.onRam_plain hram) b ro⟩
    rw [State.busRead_plain (State.onRam_plain hwritten), State.onRam_peek_memWrite hram]

/-! ## Construction -/

theorem construct_of_not_wellFormed {ds : List Device} (h : ¬ Bus.wellFormed ds = true) (p : Params) :
    construct p ds = .refused .malformedConfiguration := if_neg h

/-- Cycles remain after construction (70_reset_and_hazards.md R320, assumption 5). -/
theorem State.constructed_complete (p : Params) (ds : List Device) : (State.constructed p ds).complete = false :=
  beq_false_of_ne (Nat.succ_ne_zero _)

/-- Settles O10: the two branches of `construct`, told apart by `Bus.wellFormed_iff`. -/
theorem constructionNeedsWellFormedBus : Obligations.ConstructionNeedsWellFormedBus := by
  intro p ds
  rw [← Bus.wellFormed_iff]
  exact ⟨fun h => ⟨_, construct_of_wellFormed h p, rfl, rfl, rfl, rfl, rfl, rfl, rfl,
    State.constructed_complete p ds, rfl, rfl⟩, fun h => construct_of_not_wellFormed h p, rfl, rfl⟩

/-! ## The host's writes -/

theorem State.bootstrap_single (s : State) (k : Nat) (a : Word) (v : Byte) :
    s.bootstrap [(k, a, v)] = { s with devices := s.devices.modify k (·.write a v) } := rfl

/-- RAM handles a write at every address, so the bus hands it on to the device (20_memory.md R71). -/
theorem State.onRam_devices_memWrite {s : State} {cells : Memory} (h : s.onRam cells) (a : Word) (v : Byte) :
    (s.memWrite a v).devices = s.devices.modify 0 (·.write a v) := by
  rw [h.1, (State.onRam_memWrite h a v).1]
  rfl

/-- Settles O59: one host write is `List.modify` at the device's place. -/
theorem hostWritesReachDevice : Obligations.HostWritesReachDevice := by
  intro s k a v
  refine ⟨?_, fun hk => ?_, fun _ => rfl, fun cells hram => ?_⟩
  · rintro before after d hds rfl
    rw [State.bootstrap_single, hds, List.modify_eq_take_cons_drop (by simp)]
    simp
  · rw [State.bootstrap_single, List.modify_eq_self hk]
  · rw [State.bootstrap_single, ← State.onRam_devices_memWrite hram]
    rfl

end Sys2Proof.Machine
end

section
/-! Which instructions write memory (spec 20_memory.md R77): on plain memory, where no read changes anything, every
other instruction leaves the devices as they are. -/

namespace Sys2Proof

open Sys2Proof.Machine

/-- The mnemonics whose every instruction writes memory. -/
def memoryWriters : List Mnemonic := [.sta, .stx, .sty, .inc, .dec, .pha, .php, .jsr, .brk]

/-- The mnemonics that write memory in every form but the Implied one (43_shift_rotate.md R220). -/
def shiftMnemonics : List Mnemonic := [.asl, .lsr, .rol, .ror]

/-- An addressing routine makes reads only, and those of plain memory change nothing. -/
theorem Instr.resolved_devices (i : Instr) {s : State} (h : s.plain = true) : (i.resolved s).devices = s.devices :=
  Operand.resolve_plain _ h

theorem Instr.resolved_plain (i : Instr) {s : State} (h : s.plain = true) : (i.resolved s).plain = true := by
  rw [State.plain, i.resolved_devices h]
  exact h

end Sys2Proof

namespace Sys2Proof.Machine

@[simp] theorem State.branch_devices (s : State) (cond : Bool) : (s.branch cond).devices = s.devices := by
  cases cond <;> rfl

/-- In Implied mode a shift reads and writes A alone (43_shift_rotate.md R220). -/
theorem shiftOp_imp_devices (f : Byte → Bool → Shifted) (s : State) : (shiftOp f .imp s).1.devices = s.devices := rfl

theorem State.pull_plain {s : State} (h : s.plain = true) : s.pull.2.devices = s.devices := Bus.read_plain h _ _

theorem State.pullWord_plain {s : State} (h : s.plain = true) : s.pullWord.2.devices = s.devices := by
  simp [State.pullWord_eq, Bus.read_plain h]

theorem State.returnFromHandler_plain {s : State} (h : s.plain = true) :
    s.returnFromHandler.devices = s.devices := by
  simp [State.returnFromHandler_eq, Bus.read_plain h]

/-- On plain memory an operation routine that is not listed as a writer leaves the devices: it makes no bus access,
or reads only. -/
theorem operation_devices {i : Instr} {o : Operand} {s : State} (hplain : s.plain = true)
    (hi : i.mnemonic ∉ memoryWriters) (hshift : i.mnemonic ∈ shiftMnemonics → o = .imp) :
    (i.operation o s).1.devices = s.devices := by
  unfold Instr.operation
  cases hm : i.mnemonic <;> rw [hm] at hi hshift
  case sta | stx | sty | inc | dec | pha | php | jsr | brk => exact absurd (by decide) hi
  case asl | lsr | rol | ror =>
    rw [hshift (by decide)]
    exact shiftOp_imp_devices _ s
  case adc | sbc => simpa [opAdc, opSbc] using State.fetchOperand_plain o hplain
  case lda | ldx | ldy | and | ora | eor | bit | cmp | cpx | cpy => exact State.fetchOperand_plain o hplain
  case pla | plp => exact State.pull_plain hplain
  case rts => exact State.pullWord_plain hplain
  case rti => exact State.returnFromHandler_plain hplain
  case bcc | bcs | beq | bmi | bne | bpl | bvc | bvs => exact s.branch_devices _
  case tax | tay | tsx | txa | txs | tya | inx | iny | dex | dey | jmp | clc | cld | cli | clv | sec | sed | sei
      | nop | xxx => rfl

/-- Settles O57: the operand's routine only reads, and the operation of an instruction that is not listed leaves
the devices by `operation_devices`. -/
theorem onlyListedInstructionsWriteMemory : Obligations.OnlyListedInstructionsWriteMemory := by
  intro i s t h hplain hi hshift
  obtain ⟨extra, rfl⟩ := exec_cases h
  have hbrk : i.mnemonic ≠ .brk := fun hb => hi (by simp [hb])
  rw [Instr.operandWith_eq _ hbrk]
  exact (operation_devices (i.resolved_plain hplain) hi hshift).trans (i.resolved_devices hplain)

end Sys2Proof.Machine
end

section
/-! The opcode map as a table (spec 30_encoding.md R100-R104): what each of its 256 cells makes of the bytes after the
opcode, and that each well-formed instruction stands in the cell of its own opcode byte. -/

namespace Sys2Proof

open Sys2Proof.Machine

/-! ## The arguments of a form -/

/-- The instruction a form makes of a byte and of an address: it uses the one, the other or neither. -/
def Form.instr : Form → Byte → Word → Instr
  | .whole i, _, _ => i
  | .byte f, b, _ => f b
  | .addr f, _, a => f a
  | .brk, _, _ => .brk

/-- The operand bytes that stand for the byte or the address in an encoding (30_encoding.md R101, R107). -/
def Form.operandBytes (m : BrkMode) : Form → Byte → Word → List Byte
  | .whole _, _, _ => []
  | .byte _, b, _ => [b]
  | .addr _, _, a => [lo8 a, hi8 a]
  | .brk, _, _ => (brkOperand m).bytes

/-- The operand of a one-byte mode, else 0. -/
def Operand.byteArg : Operand → Byte
  | .imm b | .zp0 b | .zpx b | .zpy b | .rel b | .izx b | .izy b => b
  | .imp | .abs _ | .abx _ | .aby _ | .ind _ => 0

/-- The operand of a two-byte mode, else 0. -/
def Operand.wordArg : Operand → Word
  | .abs a | .abx a | .aby a | .ind a => a
  | .imp | .imm _ | .zp0 _ | .zpx _ | .zpy _ | .rel _ | .izx _ | .izy _ => 0

/-! ## The 256 cells

A fact about every cell of the map is an equality of two functions of the opcode byte, which computes row by row. -/

/-- The opcode bytes of a row of the map: those with the given high nibble. -/
def opcodeRow (hi : Fin 16) : List Byte := (List.range' (16 * hi) 16).map (BitVec.ofNat 8)

theorem exists_mem_opcodeRow (op : Byte) : ∃ hi, op ∈ opcodeRow hi :=
  ⟨⟨op.toNat / 16, by omega⟩, List.mem_map.2 ⟨op.toNat, List.mem_range'_1.2 (by simp only; omega),
    by simp⟩⟩

/-- Functions of the opcode byte that agree on each row of the map are equal. -/
theorem eq_of_opcodeRow_eq {β : Type} {f g : Byte → β} (h : ∀ hi, (opcodeRow hi).map f = (opcodeRow hi).map g) :
    ∀ op, f op = g op := by
  intro op
  obtain ⟨hi, hop⟩ := exists_mem_opcodeRow op
  exact List.map_inj_left.1 (h hi) op hop

@[simp] theorem formOf_instr_opcode (op b : Byte) (a : Word) : ((formOf op).instr b a).opcode = op := by
  revert op
  exact eq_of_opcodeRow_eq fun hi => by fin_cases hi <;> rfl

@[simp] theorem formOf_instr_wellFormed (op b : Byte) (a : Word) : ((formOf op).instr b a).wellFormed = true := by
  revert op
  exact eq_of_opcodeRow_eq fun hi => by fin_cases hi <;> rfl

/-- The encoder writes the bytes the form's arguments stand for. -/
theorem formOf_instr_bytes (m : BrkMode) (op b : Byte) (a : Word) :
    (((formOf op).instr b a).operandWith m).bytes = (formOf op).operandBytes m b a := by
  revert op
  exact eq_of_opcodeRow_eq fun hi => by fin_cases hi <;> rfl

/-- The mnemonic is the opcode byte's, whatever the arguments. -/
theorem formOf_instr_mnemonic (op b b' : Byte) (a a' : Word) :
    ((formOf op).instr b a).mnemonic = ((formOf op).instr b' a').mnemonic := by
  revert op
  exact eq_of_opcodeRow_eq fun hi => by fin_cases hi <;> rfl

/-- The addressing mode is the opcode byte's, whatever the arguments. -/
theorem formOf_instr_mode (m : BrkMode) (op b b' : Byte) (a a' : Word) :
    (((formOf op).instr b a).operandWith m).mode = (((formOf op).instr b' a').operandWith m).mode := by
  revert op
  exact eq_of_opcodeRow_eq fun hi => by fin_cases hi <;> rfl

theorem formOf_undocumented : ∀ op ∈ undocumentedBytes, formOf op = .whole (.xxx op) :=
  List.map_inj_left.1 rfl

/-- A well-formed instruction is the one its own cell makes of its operand. -/
theorem formOf_opcode_instr {i : Instr} (h : i.wellFormed = true) :
    (formOf i.opcode).instr i.operand.byteArg i.operand.wordArg = i := by
  cases i
  case xxx op =>
    have hop : op ∈ undocumentedBytes := List.contains_iff_mem.1 h
    simp [Instr.opcode, formOf_undocumented op hop, Form.instr]
  all_goals dsimp only [Instr.opcode]; rfl

/-- Well-formed instructions with one opcode byte differ in their operand's value alone (30_encoding.md R103). -/
theorem mnemonic_mode_eq_of_opcode_eq (m : BrkMode) {i j : Instr} (hi : i.wellFormed = true)
    (hj : j.wellFormed = true) (h : i.opcode = j.opcode) :
    i.mnemonic = j.mnemonic ∧ (i.operandWith m).mode = (j.operandWith m).mode := by
  rw [← formOf_opcode_instr hi, ← formOf_opcode_instr hj, h]
  exact ⟨formOf_instr_mnemonic .., formOf_instr_mode ..⟩

theorem encodeWith_eq (m : BrkMode) {i : Instr} (h : i.wellFormed = true) :
    encodeWith m i = i.opcode :: (formOf i.opcode).operandBytes m i.operand.byteArg i.operand.wordArg := by
  rw [← formOf_instr_bytes, formOf_opcode_instr h, encodeWith]

/-- The one instruction with the mnemonic "???" and a given opcode byte. -/
theorem Instr.eq_xxx_of_mnemonic {i : Instr} (h : i.mnemonic = .xxx) : i = .xxx i.opcode := by
  cases i <;> cases h
  rfl

theorem opcode_mem_undocumentedBytes {i : Instr} (hi : i.wellFormed = true) (h : i.mnemonic = .xxx) :
    i.opcode ∈ undocumentedBytes := by
  rw [Instr.eq_xxx_of_mnemonic h] at hi
  exact List.contains_iff_mem.1 hi

/-- How many operand bytes an addressing mode takes (30_encoding.md R101). -/
def Mode.operandCount : Mode → Nat
  | .imp => 0
  | .imm | .zp0 | .zpx | .zpy | .rel | .izx | .izy => 1
  | .abs | .abx | .aby | .ind => 2

theorem Instr.lengthWith_eq (m : BrkMode) (i : Instr) :
    i.lengthWith m = 1 + (i.operandWith m).mode.operandCount := by
  rw [Instr.lengthWith]
  cases i.operandWith m <;> rfl

/-! ## The decoder -/

theorem decodeWith_operandBytes (m : BrkMode) (op b : Byte) (a : Word) (rest : List Byte) :
    decodeWith m (op :: ((formOf op).operandBytes m b a ++ rest)) = .ok ((formOf op).instr b a, rest) := by
  cases hform : formOf op
  case brk => cases m <;> simp [decodeWith, hform, Form.operandBytes, Form.instr, brkOperand, Operand.bytes]
  case whole | byte | addr => simp [decodeWith, hform, Form.operandBytes, Form.instr]

/-- What the decoder reads: the opcode byte's form applied to the operand bytes, those being the encoder's but for
the byte BRK ignores (30_encoding.md R101, R107). -/
theorem decodeWith_cases {m : BrkMode} {bs rest : List Byte} {i : Instr} (h : decodeWith m bs = .ok (i, rest)) :
    ∃ op args b a, bs = op :: (args ++ rest) ∧ i = (formOf op).instr b a
      ∧ args.length = ((formOf op).operandBytes m b a).length
      ∧ (i ≠ .brk ∨ m = .imp → args = (formOf op).operandBytes m b a) := by
  obtain - | ⟨op, bs⟩ := bs
  · cases h
  refine ⟨op, ?_⟩
  cases hform : formOf op <;> simp only [decodeWith, hform] at h
  case whole =>
    cases h
    exact ⟨[], 0, 0, rfl, rfl, rfl, fun _ => rfl⟩
  case byte =>
    split at h
    next b _ =>
      cases h
      exact ⟨[b], b, 0, rfl, rfl, rfl, fun _ => rfl⟩
    next => cases h
  case addr =>
    split at h
    next lo hi _ =>
      cases h
      exact ⟨[lo, hi], 0, word hi lo, rfl, rfl, rfl, fun _ => by simp [Form.operandBytes]⟩
    next => cases h
  case brk =>
    split at h
    next =>
      cases h
      exact ⟨[], 0, 0, rfl, rfl, rfl, fun _ => rfl⟩
    next b _ =>
      cases h
      exact ⟨[b], 0, 0, rfl, rfl, rfl, fun hbrk => by simp at hbrk⟩
    next => cases h

/-- Only a list that ends before the instruction does is rejected (30_encoding.md R103). -/
theorem length_lt_of_decodeWith_error {m : BrkMode} {bs : List Byte} {e : DecodeError}
    (h : decodeWith m bs = .error e) : bs.length < 3 := by
  match bs with
  | [] | [_] | [_, _] => simp
  | op :: b1 :: b2 :: rest =>
    cases hform : formOf op <;> simp only [decodeWith, hform] at h
    case whole | byte | addr => cases h
    case brk => cases m <;> cases h

theorem decodeWith_undocumented (m : BrkMode) {op : Byte} (h : op ∈ undocumentedBytes) (rest : List Byte) :
    decodeWith m (op :: rest) = .ok (.xxx op, rest) := by
  simp [decodeWith, formOf_undocumented op h]

end Sys2Proof
end

section
/-! The statements about the encoding (spec 30_encoding.md): decoder and encoder are inverses, and the opcode byte alone
fixes mnemonic, mode and length. -/

namespace Sys2Proof.Machine

/-! ## Decoding and encoding -/

/-- Settles O1: the encoding is the opcode byte and its form's operand bytes (`encodeWith_eq`), which the decoder
makes into the instruction again (`decodeWith_operandBytes`, `formOf_opcode_instr`). -/
theorem decodeGivesBackEncoded : Obligations.DecodeGivesBackEncoded := by
  intro m i rest h
  rw [encodeWith_eq m h, List.cons_append, decodeWith_operandBytes, formOf_opcode_instr h]

/-- Settles O2: by `decodeWith_cases`, what is read is a cell's instruction and its operand bytes. -/
theorem decodedIsEncoded : Obligations.DecodedIsEncoded := by
  intro m bs rest i h
  obtain ⟨op, args, b, a, rfl, rfl, hlength, hargs⟩ := decodeWith_cases h
  refine ⟨formOf_instr_wellFormed op b a, op :: args, rfl, ?_, by simp, fun hbrk => ?_⟩
  · rw [Instr.lengthWith, formOf_instr_bytes, ← hlength, List.length_cons, Nat.add_comm]
  · rw [encodeWith, formOf_instr_opcode, formOf_instr_bytes, hargs hbrk]

/-- Settles O3: three bytes are never rejected, so `decodeWith_cases` tells what they decode to. -/
theorem everyOpcodeByteDecodes : Obligations.EveryOpcodeByteDecodes := by
  intro m
  refine ⟨fun op b1 b2 rest => ?_, fun i j => mnemonic_mode_eq_of_opcode_eq m, fun bs e =>
    length_lt_of_decodeWith_error⟩
  cases h : decodeWith m (op :: b1 :: b2 :: rest)
  case error e => exact absurd (length_lt_of_decodeWith_error h) (by simp)
  case ok r =>
    obtain ⟨op', args, b, a, hbs, hi, -, -⟩ := decodeWith_cases h
    obtain ⟨rfl, -⟩ := List.cons.inj hbs
    exact ⟨r.1, r.2, rfl, by simp [hi], by simp [hi]⟩

/-! ## The undocumented bytes -/

/-- Settles O4: the cells of the undocumented bytes are `formOf_undocumented`, and a "???" that is read is well formed,
so its byte is one of them. -/
theorem undocumentedBytesDecodeToXxx : Obligations.UndocumentedBytesDecodeToXxx := by
  refine ⟨rfl, by decide, fun m op rest => ⟨fun h => decodeWith_undocumented m h rest, ?_, rfl, rfl⟩⟩
  intro hop i rest' h hxxx
  obtain ⟨op', args, b, a, hbs, rfl, -, -⟩ := decodeWith_cases h
  obtain ⟨rfl, -⟩ := List.cons.inj hbs
  have hmem := opcode_mem_undocumentedBytes (formOf_instr_wellFormed op b a) hxxx
  rw [formOf_instr_opcode] at hmem
  exact hop hmem

/-! ## Lengths -/

/-- Settles O5: the length is a function of the mode (`Instr.lengthWith_eq`), the mode one of the opcode byte
(`mnemonic_mode_eq_of_opcode_eq`); the bounds are those of the twelve modes. -/
theorem lengthIsFixedByMode : Obligations.LengthIsFixedByMode := by
  intro m i j
  refine ⟨fun h => by rw [Instr.lengthWith_eq, Instr.lengthWith_eq, h], Nat.add_comm _ 1, fun hi hj h => ?_, ?_⟩
  · rw [Instr.lengthWith_eq, Instr.lengthWith_eq, (mnemonic_mode_eq_of_opcode_eq m hi hj h).2]
  · rw [Instr.lengthWith_eq]
    cases (i.operandWith m).mode <;> decide

/-! ## Words written out -/

/-- Settles O6: but for BRK's ignored byte each word is what the encoder writes, so O1 decodes it. -/
theorem writtenWordsDecode : Obligations.WrittenWordsDecode :=
  ⟨decodeGivesBackEncoded .imm (.ldaImm 0x7F) [] rfl, decodeGivesBackEncoded .imm (.staAbs 0x0002) [] rfl,
    decodeGivesBackEncoded .imm (.adcAbs 0x1234) [] rfl, decodeGivesBackEncoded .imm (.rolZpx 0x80) [] rfl,
    decodeGivesBackEncoded .imm (.bne 0xFA) [] rfl, decodeGivesBackEncoded .imm (.jmpInd 0x01FF) [] rfl,
    rfl, decodeGivesBackEncoded .imp .brk [0xEA, 0x40] rfl, decodeGivesBackEncoded .imm .plp [] rfl,
    decodeGivesBackEncoded .imm (.xxx 0x9E) [0x00] rfl⟩

end Sys2Proof.Machine
end

section
/-! BRK's length and return address in both values of BRK_MODE (spec 30_encoding.md R107, 45_stack_flags_system.md
R263), on RAM. -/

namespace Sys2Proof

open Sys2Proof.Machine

@[simp] theorem Instr.resolved_sp (i : Instr) (s : State) : (i.resolved s).sp = s.sp := Operand.resolve_sp _ s

@[simp] theorem Instr.resolved_pc (i : Instr) (s : State) : (i.resolved s).pc = s.pc := Operand.resolve_pc _ s

@[simp] theorem Instr.resolved_opcode (i : Instr) (s : State) : (i.resolved s).opcode = s.opcode :=
  Operand.resolve_opcode _ s

end Sys2Proof

namespace Sys2Proof.Machine

/-! ## The stack page -/

theorem stackAddr_toNat (sp : Byte) : (stackAddr sp).toNat = 256 + sp.toNat := by
  have := sp.isLt
  simp [stackAddr, zext16]
  omega

theorem stackAddr_inj {sp sp' : Byte} : stackAddr sp = stackAddr sp' ↔ sp = sp' := by
  rw [← BitVec.toNat_inj, ← BitVec.toNat_inj, stackAddr_toNat, stackAddr_toNat, Nat.add_left_cancel_iff]

/-! ## The entry to a handler, on RAM -/

theorem State.enterHandler_devices {s : State} (h : s.plain = true) (stacked live : Byte) (vector : Word) :
    (s.enterHandler stacked live vector).devices = devicesAfterEntry s stacked := by
  have hplain : (devicesAfterEntry s stacked).all Device.plain = true := by
    rw [devicesAfterEntry, Bus.write_plain, Bus.write_plain, Bus.write_plain]
    exact h
  simp [State.enterHandler_eq, Bus.read_plain hplain]

/-- After the entry to a handler the return address stands on the stack, the high byte above the low one (20_memory.md
R74, 60_exceptions.md R280). -/
theorem State.onRam_peek_enterHandler {s : State} {cells : Memory} (h : s.onRam cells) (stacked live : Byte)
    (vector : Word) :
    (s.enterHandler stacked live vector).peek (stackAddr s.sp) = hi8 s.pc
      ∧ (s.enterHandler stacked live vector).peek (stackAddr (s.sp - 1)) = lo8 s.pc := by
  have high := State.onRam_memWrite h (stackAddr s.sp) (hi8 s.pc)
  have low := State.onRam_memWrite high (stackAddr (s.sp - 1)) (lo8 s.pc)
  have hdevices : (s.enterHandler stacked live vector).devices =
      (((s.memWrite (stackAddr s.sp) (hi8 s.pc)).memWrite (stackAddr (s.sp - 1)) (lo8 s.pc)).memWrite
        (stackAddr (s.sp - 2)) stacked).devices := State.enterHandler_devices (State.onRam_plain h) ..
  have h1 : s.sp ≠ s.sp - 1 := by bv_omega
  have h2 : s.sp ≠ s.sp - 2 := by bv_omega
  have h3 : s.sp - 1 ≠ s.sp - 2 := by bv_omega
  simp only [State.peek_congr hdevices, State.onRam_peek_memWrite low, State.onRam_peek_memWrite high,
    State.onRam_peek_memWrite h, stackAddr_inj, h1, h2, h3, if_true, if_false, and_self]

/-! ## BRK -/

/-- How many bytes BRK has in each BRK_MODE (30_encoding.md R107). -/
def brkLength : BrkMode → Word
  | .imm => 2
  | .imp => 1

/-- How far the address BRK stacks lies from its opcode's in each BRK_MODE (30_encoding.md R107). -/
def brkReturnOffset : BrkMode → Word
  | .imm => 3
  | .imp => 2

theorem brkLength_add_one (m : BrkMode) : brkLength m + 1 = brkReturnOffset m := by
  cases m <;> rfl

/-- On RAM the fetch of 0x00 gives BRK, reads one byte and steps over the pad byte of IMM. -/
theorem fetch_brk {s : State} (hplain : s.plain = true) (h : s.peek s.pc = 0x00) :
    fetch s = (.brk, { s with opcode := 0x00, pc := s.pc + brkLength s.params.brkMode, p := putFlag s.p .u true }) := by
  have hopcode : s.fetchOpcode = (0x00, { s with opcode := 0x00, pc := s.pc + 1, p := putFlag s.p .u true }) := by
    simp [State.fetchOpcode_eq, State.busRead_plain hplain, h]
  have hform : formOf 0x00 = .brk := rfl
  cases hm : s.params.brkMode <;> simp only [fetch, fetchWith, hopcode, hform, hm, brkLength]
  rw [BitVec.add_assoc]
  rfl

/-- An operation that returns 0 leaves its base count of cycles. -/
theorem exec_eq_of_returns_zero {i : Instr} {s : State}
    (h : (i.operation (i.operandWith s.params.brkMode) (i.resolved s)).2 = false) :
    exec i s = .next (i.operation (i.operandWith s.params.brkMode) (i.resolved s)).1 := by
  simp only [Instr.resolved] at h
  simp only [exec_eq_runOp, runOp_eq, Instr.resolved, h, Bool.and_false]
  rfl

/-- BRK enters the handler at the IRQ vector with the address after PC (45_stack_flags_system.md R263). -/
theorem exec_brk_eq (s : State) :
    exec .brk s = .next (State.enterHandler { Instr.brk.resolved s with pc := s.pc + 1 }
      (putFlag (putFlag s.p .i true) .b true) (putFlag (putFlag s.p .i true) .b false) irqVector) := by
  rw [exec_eq_of_returns_zero rfl, ← Instr.resolved_p .brk s, ← Instr.resolved_pc .brk s]
  rfl

/-- What BRK does on RAM: the two stacked address bytes are those of PC + 1. -/
theorem exec_brk_of_onRam {s : State} {cells : Memory} (h : s.onRam cells) :
    ∃ t, exec .brk s = .next t ∧ t.cycles = s.baseCycles 0x00 ∧ t.sp = s.sp - 3 ∧ t.opcode = s.opcode
      ∧ t.peek (stackAddr s.sp) = hi8 (s.pc + 1) ∧ t.peek (stackAddr (s.sp - 1)) = lo8 (s.pc + 1) := by
  have hram : State.onRam { Instr.brk.resolved s with pc := s.pc + 1 } cells :=
    State.onRam_congr h (Instr.brk.resolved_devices (State.onRam_plain h))
  have hpeek := State.onRam_peek_enterHandler hram (putFlag (putFlag s.p .i true) .b true)
    (putFlag (putFlag s.p .i true) .b false) irqVector
  refine ⟨_, exec_brk_eq s, ?_, ?_, ?_, ?_⟩
  · simp [Instr.opcode]
  · simp
  · simp [State.enterHandler_eq]
  · simpa using hpeek

/-! ## The clock that fetches -/

theorem clock_of_exec {s t : State} (hcycles : s.cycles = 0) (h : exec (fetch s).1 (fetch s).2 = .next t) :
    clock s = .next (t.setFlag .u true).tick := by
  simp [clock, hcycles, h]

theorem command_clock_of_resetDone {s : State} (h : s.resetDone = true) : command .clock s = clock s := if_pos h

/-- Settles O37: the fetch moves PC by `brkLength` (`fetch_brk`), BRK stacks the address after it
(`exec_brk_of_onRam`), and the end of the clock changes neither the stack nor S. -/
theorem brkLengthFollowsBrkMode : Obligations.BrkLengthFollowsBrkMode := by
  rintro m s cells rfl hram hopcode
  have hfetch := fetch_brk (State.onRam_plain hram) hopcode
  have hfetched : (fetch s).2.onRam cells := State.onRam_congr hram (by rw [hfetch])
  obtain ⟨t, hexec, hcycles, hsp, hop, hhigh, hlow⟩ := exec_brk_of_onRam hfetched
  simp only [hfetch, BitVec.add_assoc, brkLength_add_one] at hcycles hsp hop hhigh hlow
  have hinstr : (fetch s).1 = .brk := by rw [hfetch]
  refine ⟨hinstr, by rw [hfetch]; rfl, by cases s.params.brkMode <;> rfl, ⟨t, hexec, hcycles, hhigh, hlow⟩,
    fun hreset hzero => ⟨(t.setFlag .u true).tick, ?_, hsp, hop, hhigh, hlow⟩⟩
  rw [command_clock_of_resetDone hreset, clock_of_exec hzero (hinstr ▸ hexec)]

end Sys2Proof.Machine
end

section
/-! The addressing routines (spec 40_execution_and_addressing.md R140-R152): the address each computes, with its wraps,
and the bus accesses it makes. -/

namespace Sys2Proof.Machine

/-! ## Sums of addresses, as numbers -/

theorem zext16_eq (b : Byte) : zext16 b = BitVec.ofNat 16 b.toNat := (BitVec.ofNat_toNat 16 b).symm

/-- A sum of bytes as an address wraps in page 0 (R143, R144, R150). -/
theorem zext16_add (b c : Byte) : zext16 (b + c) = BitVec.ofNat 16 ((b.toNat + c.toNat) % 256) := by
  rw [zext16_eq, BitVec.toNat_add]

theorem zext16_add_one (b : Byte) : zext16 (b + 1) = BitVec.ofNat 16 ((b.toNat + 1) % 256) := zext16_add b 1

/-- Where the high byte of an Indirect,X pointer stands (R150). -/
theorem zext16_add_add_one (b c : Byte) :
    zext16 (b + c + 1) = BitVec.ofNat 16 ((b.toNat + c.toNat + 1) % 256) := by
  rw [zext16_add, BitVec.toNat_add]
  exact congrArg _ (Nat.mod_add_mod ..)

theorem add_zext16 (w : Word) (b : Byte) : w + zext16 b = BitVec.ofNat 16 (w.toNat + b.toNat) := by
  rw [zext16_eq, ← BitVec.ofNat_add_ofNat, BitVec.ofNat_toNat 16 w, BitVec.setWidth_eq]

/-- The sum of an indexed mode modulo 65536, and its extra-cycle bit as a change of page number (R147, R148). -/
theorem State.indexed_eq (s : State) (base : Word) (index : Byte) :
    s.indexed base index = ({ s with addrAbs := BitVec.ofNat 16 (base.toNat + index.toNat) },
      decide ((base.toNat + index.toNat) % 65536 / 256 ≠ base.toNat / 256)) := by
  simp only [State.indexed, add_zext16, ne_eq, hi8_eq_iff, BitVec.toNat_ofNat]

/-- Settles O12: each routine by its definition, with the sums of `zext16_add` and `State.indexed_eq`. -/
theorem directModesComputeAddress : Obligations.DirectModesComputeAddress := by
  intro s b w
  rw [← zext16_eq, ← zext16_add, ← zext16_add, ← sext16_eq]
  exact ⟨rfl, rfl, rfl, rfl, rfl, rfl, rfl, s.indexed_eq w s.x, s.indexed_eq w s.y⟩

/-! ## Pointers -/

theorem State.readPointer_plain {s : State} (h : s.plain = true) (loAddr hiAddr : Word) :
    s.readPointer loAddr hiAddr = (word (s.peek hiAddr) (s.peek loAddr), s) := by
  simp only [State.readPointer, State.memRead_plain h]

/-- Indirect mode's defect: after the last byte of a page it reads the page's first (R149). -/
theorem indirectHighAddr_eq (ptr : Word) : indirectHighAddr ptr =
    if ptr.toNat % 256 = 255 then BitVec.ofNat 16 (ptr.toNat / 256 * 256) else BitVec.ofNat 16 (ptr.toNat + 1) := by
  have hlow : lo8 ptr = 0xFF ↔ ptr.toNat % 256 = 255 := by rw [← BitVec.toNat_inj, lo8_toNat]; rfl
  simp only [indirectHighAddr, hlow]
  split
  · apply BitVec.eq_of_toNat_eq
    rw [word_toNat, hi8_toNat, BitVec.toNat_ofNat, Nat.mod_eq_of_lt (by omega)]
    simp
  · bv_omega

theorem indirectHighAddr_eq_ofNat (ptr : Word) : indirectHighAddr ptr =
    BitVec.ofNat 16 (if ptr.toNat % 256 = 255 then ptr.toNat - 255 else ptr.toNat + 1) := by
  rw [indirectHighAddr_eq]
  split
  · rw [show ptr.toNat / 256 * 256 = ptr.toNat - 255 by omega]
  · rfl

end Sys2Proof.Machine

namespace Sys2Proof

open Sys2Proof.Machine

theorem Operand.address_imm (b : Byte) (s : State) : (Operand.imm b).address s = s.pc - 1 := rfl

theorem Operand.address_ind (ptr : Word) (s : State) :
    (Operand.ind ptr).address s = (s.readPointer ptr (indirectHighAddr ptr)).1 := rfl

theorem Operand.address_izx (t : Byte) (s : State) :
    (Operand.izx t).address s = (s.readPointer (zext16 (t + s.x)) (zext16 (t + s.x + 1))).1 := rfl

theorem Operand.address_izy (t : Byte) (s : State) :
    (Operand.izy t).address s = (s.readPointer (zext16 t) (zext16 (t + 1))).1 + zext16 s.y := rfl

theorem Operand.crosses_izy (t : Byte) (s : State) : (Operand.izy t).crosses s =
    decide (hi8 ((Operand.izy t).address s) ≠ hi8 (s.readPointer (zext16 t) (zext16 (t + 1))).1) := rfl

theorem Operand.resolve_reg (o : Operand) (s : State) (r : Reg) : (o.resolve s).1.reg r = s.reg r := by
  cases r <;> simp [State.reg]

end Sys2Proof

namespace Sys2Proof.Machine

/-- Settles O13: on plain memory the pointer is the two bytes the host sees (`State.readPointer_plain`), at the
addresses of `indirectHighAddr_eq`, `zext16_add` and `zext16_add_add_one`. -/
theorem pointerModesComputeAddress : Obligations.PointerModesComputeAddress := by
  intro s t ptr h
  have hizy : s.readPointer (zext16 t) (zext16 (t + 1)) =
      (word (s.peek (BitVec.ofNat 16 ((t.toNat + 1) % 256))) (s.peek (BitVec.ofNat 16 t.toNat)), s) := by
    rw [State.readPointer_plain h, zext16_add_one, zext16_eq]
  refine ⟨?_, rfl, ?_, rfl, ?_, ?_⟩
  · rw [Operand.address_ind, State.readPointer_plain h, indirectHighAddr_eq]
    rfl
  · rw [Operand.address_izx, State.readPointer_plain h, zext16_add_add_one, zext16_add]
    rfl
  · rw [Operand.address_izy, hizy, zext16_eq]
    rfl
  · rw [Operand.crosses_izy, hizy, hi8_word, decide_eq_true_iff]

/-- Settles O14: on plain memory a routine's reads change nothing (`Operand.resolve_plain`), and the rest is what a
routine keeps, field by field. -/
theorem addressingWritesNothing : Obligations.AddressingWritesNothing :=
  fun o s => ⟨o.resolve_plain, o.resolve_busConfig s, o.resolve_p s, o.resolve_pc s, o.resolve_cycles s,
    o.resolve_reg s⟩

end Sys2Proof.Machine
end

section
/-! Fetching an instruction (spec 40_execution_and_addressing.md R131, 20_memory.md R82): the reads of its bytes, in
their order, and the instruction they decode to. -/

namespace Sys2Proof

open Sys2Proof.Machine

/-- BRK stands in the one cell of the opcode map that BRK_MODE rules (30_encoding.md R107). -/
theorem formOf_eq_brk {op b : Byte} {a : Word} (h : (formOf op).instr b a = .brk) : formOf op = .brk := by
  have hop : op = 0x00 := by rw [← formOf_instr_opcode op b a, h]; rfl
  rw [hop]
  rfl

/-- Three bytes decode to what the form of the first makes of the other two. -/
theorem instr_of_decodeWith {m : BrkMode} {op lo hi : Byte} {i : Instr} {rest : List Byte}
    (h : decodeWith m [op, lo, hi] = .ok (i, rest)) : (formOf op).instr lo (word hi lo) = i := by
  cases hform : formOf op <;> simp only [decodeWith, hform] at h
  case whole | byte | addr => cases h; rfl
  case brk => cases m <;> cases h <;> rfl

theorem formOf_instr_lengthWith (m : BrkMode) (op b : Byte) (a : Word) :
    ((formOf op).instr b a).lengthWith m = 1 + ((formOf op).operandBytes m b a).length := by
  rw [Instr.lengthWith, formOf_instr_bytes]

end Sys2Proof

namespace Sys2Proof.Machine

/-! ## The reads -/

/-- The read of the opcode byte, and the devices after it. -/
def State.opcodeRead (s : State) : Byte × List Device := Bus.read s.devices s.pc false

/-- The read of the byte after the opcode, on the devices the opcode's read left. -/
def State.lowRead (s : State) : Byte × List Device := Bus.read s.opcodeRead.2 (s.pc + 1) false

/-- The read of the second byte after the opcode, on the devices the first one's read left. -/
def State.highRead (s : State) : Byte × List Device := Bus.read s.lowRead.2 (s.pc + 2) false

/-- The state a fetch leaves: the opcode recorded, PC past `length` bytes, U set, the reads made. -/
def State.afterFetch (s : State) (length : Nat) (devices : List Device) : State :=
  { s with opcode := s.opcodeRead.1, pc := s.pc + BitVec.ofNat 16 length, p := s.p ||| 0x20, devices := devices }

/-- The devices after the fetch of an instruction: BRK's pad byte is stepped over, not read (R141,
45_stack_flags_system.md R263). -/
def State.devicesAfterBytes (s : State) (i : Instr) : List Device :=
  if i = .brk ∨ i.lengthWith s.params.brkMode = 1 then s.opcodeRead.2
  else if i.lengthWith s.params.brkMode = 2 then s.lowRead.2 else s.highRead.2

theorem fetchOpcode_eq_afterFetch (s : State) :
    s.fetchOpcode = (s.opcodeRead.1, s.afterFetch 1 s.opcodeRead.2) := rfl

theorem readPc_after_opcode (s : State) :
    (s.afterFetch 1 s.opcodeRead.2).readPc = (s.lowRead.1, s.afterFetch 2 s.lowRead.2) := by
  simp [State.readPc_eq, State.afterFetch, State.lowRead, BitVec.add_assoc]

theorem readPc_after_low (s : State) :
    (s.afterFetch 2 s.lowRead.2).readPc = (s.highRead.1, s.afterFetch 3 s.highRead.2) := by
  simp [State.readPc_eq, State.afterFetch, State.highRead, BitVec.add_assoc]

/-! ## The fetch of each form -/

theorem fetch_of_whole {s : State} {i : Instr} (h : formOf s.opcodeRead.1 = .whole i) :
    fetch s = (i, s.afterFetch 1 s.opcodeRead.2) := by
  simp only [fetch, fetchWith, fetchOpcode_eq_afterFetch, h]

theorem fetch_of_byte {s : State} {f : Byte → Instr} (h : formOf s.opcodeRead.1 = .byte f) :
    fetch s = (f s.lowRead.1, s.afterFetch 2 s.lowRead.2) := by
  simp only [fetch, fetchWith, fetchOpcode_eq_afterFetch, h, readPc_after_opcode]

theorem fetch_of_addr {s : State} {f : Word → Instr} (h : formOf s.opcodeRead.1 = .addr f) :
    fetch s = (f (word s.highRead.1 s.lowRead.1), s.afterFetch 3 s.highRead.2) := by
  simp only [fetch, fetchWith, fetchOpcode_eq_afterFetch, h, readPc_after_opcode, readPc_after_low]

theorem fetch_of_brk {s : State} (h : formOf s.opcodeRead.1 = .brk) :
    fetch s = (.brk, s.afterFetch (Instr.brk.lengthWith s.params.brkMode) s.opcodeRead.2) := by
  cases hm : s.params.brkMode <;> simp only [fetch, fetchWith, fetchOpcode_eq_afterFetch, h, hm]
  case imp => rfl
  case imm =>
    have hlength : Instr.brk.lengthWith .imm = 2 := rfl
    simp [State.afterFetch, hlength, BitVec.add_assoc]

/-! ## The fetch -/

/-- The instruction that stands at PC. -/
def State.instrAtPc (s : State) : Instr :=
  (formOf s.opcodeRead.1).instr s.lowRead.1 (word s.highRead.1 s.lowRead.1)

/-- A fetch gives the instruction that stands at PC, moves PC past its length and makes the reads of its bytes: the
length is the form's, and only BRK's own form makes a BRK. -/
theorem fetch_eq (s : State) : fetch s = (s.instrAtPc,
    s.afterFetch (s.instrAtPc.lengthWith s.params.brkMode) (s.devicesAfterBytes s.instrAtPc)) := by
  have hbrk : s.instrAtPc = .brk → formOf s.opcodeRead.1 = .brk := formOf_eq_brk
  have hlength :=
    formOf_instr_lengthWith s.params.brkMode s.opcodeRead.1 s.lowRead.1 (word s.highRead.1 s.lowRead.1)
  cases hform : formOf s.opcodeRead.1 <;>
    simp only [State.instrAtPc, State.devicesAfterBytes, hform, Form.instr, Form.operandBytes, List.length_cons,
      List.length_nil, reduceCtorEq, imp_false] at hbrk hlength ⊢
  case whole i => simp [fetch_of_whole hform, hlength]
  case byte f => simp [fetch_of_byte hform, hlength, hbrk]
  case addr f => simp [fetch_of_addr hform, hlength, hbrk]
  case brk => simp [fetch_of_brk hform]

/-- The fetched instruction is one of the opcode byte read. -/
theorem fetch_opcode (s : State) : (fetch s).1.opcode = s.fetchOpcode.1 := by
  rw [fetch_eq]
  exact formOf_instr_opcode ..

theorem fetch_of_decodeWith {s : State} {i : Instr} {rest : List Byte}
    (h : decodeWith s.params.brkMode [s.opcodeRead.1, s.lowRead.1, s.highRead.1] = .ok (i, rest)) :
    fetch s = (i, s.afterFetch (i.lengthWith s.params.brkMode) (s.devicesAfterBytes i)) := by
  rw [fetch_eq, State.instrAtPc, instr_of_decodeWith h]

/-! ## On plain memory -/

/-- The three reads give the bytes the host sees and change nothing. -/
theorem State.reads_plain {s : State} (h : s.plain = true) :
    s.opcodeRead = (s.peek s.pc, s.devices) ∧ s.lowRead = (s.peek (s.pc + 1), s.devices)
      ∧ s.highRead = (s.peek (s.pc + 2), s.devices) := by
  simp [State.opcodeRead, State.lowRead, State.highRead, State.busRead_plain h]

theorem State.devicesAfterBytes_plain {s : State} (h : s.plain = true) (i : Instr) :
    s.devicesAfterBytes i = s.devices := by
  obtain ⟨hop, hlow, hhigh⟩ := State.reads_plain h
  simp [State.devicesAfterBytes, hop, hlow, hhigh]

theorem fetch_of_decodeWith_plain {s : State} {i : Instr} {rest : List Byte} (hplain : s.plain = true)
    (h : decodeWith s.params.brkMode [s.peek s.pc, s.peek (s.pc + 1), s.peek (s.pc + 2)] = .ok (i, rest)) :
    fetch s = (i, { s with
      opcode := s.peek s.pc, pc := s.pc + BitVec.ofNat 16 (i.lengthWith s.params.brkMode), p := s.p ||| 0x20 }) := by
  obtain ⟨hop, hlow, hhigh⟩ := State.reads_plain hplain
  rw [fetch_of_decodeWith (by rw [hop, hlow, hhigh]; exact h), State.devicesAfterBytes_plain hplain,
    State.afterFetch, hop]

end Sys2Proof.Machine
end

section
/-! What a clock in the fetching state runs (spec 40_execution_and_addressing.md R131), and how a step follows from the
host's next command (R130). -/

namespace Sys2Proof.Machine

/-! ## The clock that fetches -/

/-- What a clock() that fetches makes of its instruction's answer: U is set, and the cycle is counted (R131). -/
def endOfClock : Host.Outcome State Fault Refusal → Host.Outcome State Fault Refusal
  | .next t => .next (t.setFlag .u true).tick
  | .fault r => .fault r
  | .refused r => .refused r

/-- The clock in the fetching state runs what it fetches. -/
theorem clock_of_fetch {s f : State} {i : Instr} (hreset : s.resetDone = true) (hcycles : s.cycles = 0)
    (hfetch : fetch s = (i, f)) : command .clock s = endOfClock (exec i f) := by
  rw [command_clock_of_resetDone hreset, clock, if_pos hcycles, hfetch]
  rfl

/-! ## The host's next command -/

theorem step_of_noCommands {s : State} (h : s.hostCommands = []) : step s = command .clock s := by
  simp [step, State.nextCommand, h]

theorem step_of_nextCommand {s : State} {c : HostCommand} {cs : List HostCommand} (h : s.hostCommands = c :: cs) :
    step s = command c { s with hostCommands := cs } := by
  simp [step, State.nextCommand, h]

theorem step_of_clockNext {s : State} (h : s.hostCommands = [] ∨ s.hostCommands.head? = some .clock) :
    step s = command .clock { s with hostCommands := s.hostCommands.tail } := by
  obtain h | h := h
  · rw [step_of_noCommands h, h, List.tail_nil, ← h]
  · exact step_of_nextCommand (List.eq_cons_of_mem_head? h)

/-- Settles O50: what is fetched is `fetch_of_decodeWith`, what then runs `clock_of_fetch`; on plain memory every byte
is the one the host sees. -/
theorem stepRunsDecodedInstruction : Obligations.StepRunsDecodedInstruction := by
  refine ⟨fun s => ⟨step_of_noCommands, fun c cs => step_of_nextCommand⟩, fun s i rest => ?_, ?_⟩
  · intro op lo hi hdecode fetched
    have hfetch : fetch s = (i, fetched) := fetch_of_decodeWith hdecode
    exact ⟨hfetch, fun hreset hcycles => clock_of_fetch hreset hcycles hfetch⟩
  · intro s i rest hreset hcycles hplain hcommands hdecode
    have hfetch := fetch_of_decodeWith_plain (s := { s with hostCommands := s.hostCommands.tail }) hplain hdecode
    exact (step_of_clockNext hcommands).trans (clock_of_fetch hreset hcycles hfetch)

end Sys2Proof.Machine
end

section
/-! The cycle counters (spec 40_execution_and_addressing.md R131, R132, R135): total_cycles, which no instruction
writes, and the ticks that only count down. -/

namespace Sys2Proof.Machine

/-! ## The fields no instruction writes -/

/-- The fields that only commands write are as before: the clock count, the reset marker, the host's commands. -/
structure State.ControlKept (s t : State) : Prop where
  totalCycles : t.totalCycles = s.totalCycles
  resetDone : t.resetDone = s.resetDone
  hostCommands : t.hostCommands = s.hostCommands

theorem State.ControlKept.trans {s t u : State} (h : s.ControlKept t) (h' : t.ControlKept u) : s.ControlKept u :=
  ⟨h'.totalCycles.trans h.totalCycles, h'.resetDone.trans h.resetDone, h'.hostCommands.trans h.hostCommands⟩

theorem State.fetchOperand_controlKept (s : State) (o : Operand) : s.ControlKept (s.fetchOperand o).2 :=
  ⟨s.fetchOperand_totalCycles o, s.fetchOperand_resetDone o, s.fetchOperand_hostCommands o⟩

theorem State.addWithCarry_controlKept (s : State) (m : Byte) : s.ControlKept (s.addWithCarry m) := ⟨rfl, rfl, rfl⟩

theorem State.branch_controlKept (s : State) (cond : Bool) : s.ControlKept (s.branch cond) := by
  cases cond <;> exact ⟨rfl, rfl, rfl⟩

@[simp] theorem State.writeBack_totalCycles (s : State) (o : Operand) (r : Byte) :
    (s.writeBack o r).totalCycles = s.totalCycles := by
  cases o <;> rfl

@[simp] theorem State.writeBack_resetDone (s : State) (o : Operand) (r : Byte) :
    (s.writeBack o r).resetDone = s.resetDone := by
  cases o <;> rfl

@[simp] theorem State.writeBack_hostCommands (s : State) (o : Operand) (r : Byte) :
    (s.writeBack o r).hostCommands = s.hostCommands := by
  cases o <;> rfl

theorem shiftOp_controlKept (f : Byte → Bool → Shifted) (o : Operand) (s : State) : s.ControlKept (shiftOp f o s).1 :=
  ⟨by simp [shiftOp], by simp [shiftOp], by simp [shiftOp]⟩

theorem State.enterHandler_controlKept (s : State) (stacked live : Byte) (vector : Word) :
    s.ControlKept (s.enterHandler stacked live vector) := by
  rw [State.enterHandler_eq]
  exact ⟨rfl, rfl, rfl⟩

theorem State.returnFromHandler_controlKept (s : State) : s.ControlKept s.returnFromHandler := by
  rw [State.returnFromHandler_eq]
  exact ⟨rfl, rfl, rfl⟩

theorem operation_controlKept (i : Instr) (o : Operand) (s : State) : s.ControlKept (i.operation o s).1 := by
  have fetched := s.fetchOperand_controlKept o
  unfold Instr.operation
  cases i.mnemonic
  case adc | sbc => exact fetched.trans (State.addWithCarry_controlKept _ _)
  case lda | ldx | ldy | and | ora | eor | bit | cmp | cpx | cpy | inc | dec =>
    exact fetched.trans ⟨rfl, rfl, rfl⟩
  case asl | lsr | rol | ror => exact shiftOp_controlKept _ o s
  case bcc | bcs | beq | bmi | bne | bpl | bvc | bvs => exact s.branch_controlKept _
  case brk =>
    have stepped : s.ControlKept { s with pc := s.pc + 1 } := ⟨rfl, rfl, rfl⟩
    exact stepped.trans (State.enterHandler_controlKept _ _ _ _)
  case rti => exact s.returnFromHandler_controlKept
  case sta | stx | sty | tax | tay | tsx | txa | txs | tya | inx | iny | dex | dey | jmp | jsr | rts | pha
      | php | pla | plp | clc | cld | cli | clv | sec | sed | sei | nop | xxx => exact ⟨rfl, rfl, rfl⟩

theorem Instr.resolved_controlKept (i : Instr) (s : State) : s.ControlKept (i.resolved s) :=
  ⟨Operand.resolve_totalCycles _ s, Operand.resolve_resetDone _ s, Operand.resolve_hostCommands _ s⟩

theorem exec_controlKept {i : Instr} {s t : State} (h : exec i s = .next t) : s.ControlKept t := by
  obtain ⟨extra, rfl⟩ := exec_cases h
  obtain ⟨htotal, hreset, hcommands⟩ :=
    (Instr.resolved_controlKept i s).trans (operation_controlKept i (i.operandWith s.params.brkMode) (i.resolved s))
  exact ⟨htotal, hreset, hcommands⟩

theorem fetch_controlKept (s : State) : s.ControlKept (fetch s).2 := by
  rw [fetch_eq]
  exact ⟨rfl, rfl, rfl⟩

/-- A clock() counts itself and leaves the reset marker and the host's commands. -/
theorem clock_controlKept {s t : State} (h : clock s = .next t) :
    State.ControlKept { s with totalCycles := s.totalCycles + 1 } t := by
  obtain ⟨-, rfl⟩ | ⟨u, hu, rfl⟩ := clock_cases h
  · exact ⟨rfl, rfl, rfl⟩
  · obtain ⟨htotal, hreset, hcommands⟩ := (fetch_controlKept s).trans (exec_controlKept hu)
    exact ⟨congrArg (· + 1) htotal, hreset, hcommands⟩

theorem State.irq_controlKept (s : State) : s.ControlKept s.irq := by
  unfold State.irq
  split
  · exact ⟨rfl, rfl, rfl⟩
  · obtain ⟨htotal, hreset, hcommands⟩ :=
      s.enterHandler_controlKept (interruptStatus s.p) (interruptStatus s.p) irqVector
    exact ⟨htotal, hreset, hcommands⟩

theorem State.nmi_controlKept (s : State) : s.ControlKept s.nmi := by
  obtain ⟨htotal, hreset, hcommands⟩ :=
    s.enterHandler_controlKept (interruptStatus s.p) (interruptStatus s.p) nmiVector
  exact ⟨htotal, hreset, hcommands⟩

/-- Settles O47: the clock by `clock_controlKept`, irq() and nmi() by the entry to a handler. -/
theorem totalCyclesCountsClocks : Obligations.TotalCyclesCountsClocks := by
  refine fun s t => ⟨fun h => (clock_controlKept (next_of_accepted h)).totalCycles, ?_, ?_⟩
  · rintro (h | h)
    · cases next_of_accepted h
      exact s.irq_controlKept.totalCycles
    · cases next_of_accepted h
      exact s.nmi_controlKept.totalCycles
  · intro h
    cases h
    rfl

/-! ## Counting down -/

theorem clock_of_cycles_ne_zero {s : State} (h : s.cycles ≠ 0) : clock s = .next s.tick := if_neg h

theorem clock_next (s : State) : ∃ t, clock s = .next t := by
  by_cases h : s.cycles = 0
  · exact ⟨_, clock_of_exec h (exec_eq_runOp _ _)⟩
  · exact ⟨_, clock_of_cycles_ne_zero h⟩

theorem run_succ {M : Host.Core} {s t : M.State} (h : M.step s = .next t) (k : Nat) :
    M.run (k + 1) s = M.run k t := by
  rw [Host.Core.run, h]

/-- A host that only clocks sees a running count go down by one at each step, and nothing else change. -/
theorem run_countDown {t : State} (hreset : t.resetDone = true) (hcommands : t.hostCommands = []) {k : Nat}
    (hk : k ≤ t.cycles) :
    Host.Core.run Sys2Proof.core k t
      = .next { t with cycles := t.cycles - k, totalCycles := t.totalCycles + k } := by
  induction k generalizing t with
  | zero => rfl
  | succ k ih =>
    have hcycles : t.cycles ≠ 0 := by omega
    have hstep : step t = .next t.tick := by
      rw [step_of_noCommands hcommands, command_clock_of_resetDone hreset, clock_of_cycles_ne_zero hcycles]
    have htick : t.tick.cycles = t.cycles - 1 := by rw [State.tick_cycles, countDown_pos hcycles]
    rw [run_succ (M := Sys2Proof.core) hstep, ih (t := t.tick) hreset hcommands (by omega), htick]
    simp [State.tick, Nat.sub_sub, Nat.add_assoc, Nat.add_comm 1]

/-- An instruction leaves at least its base count. -/
theorem baseCycles_le_of_exec {i : Instr} {s t : State} (h : exec i s = .next t) :
    s.baseCycles i.opcode ≤ t.cycles := by
  obtain ⟨extra, rfl⟩ := exec_cases h
  have hop := operation_cycles i (i.operandWith s.params.brkMode) (i.resolved s)
  rw [Instr.resolved_cycles] at hop
  obtain hop | ⟨-, hop, -⟩ := hop
  · exact (Nat.le_of_eq hop.symm).trans (Nat.le_add_right _ _)
  · exact hop.trans (Nat.le_add_right _ _)

theorem fetch_baseCycles (s : State) (op : Byte) : (fetch s).2.baseCycles op = s.baseCycles op := by
  rw [State.baseCycles, fetch_params, State.baseCycles]

/-- Every default count is at least 2 (R132). -/
theorem two_le_baseCycles {s : State} {op : Byte} (h : s.params = defaultParams ∨ 2 ≤ s.baseCycles op) :
    2 ≤ s.baseCycles op := by
  obtain hdefault | h := h
  · rw [State.baseCycles_default hdefault]
    exact (baseCycles_range op).1
  · exact h

/-- Settles O51: the instruction leaves at least its base count (`baseCycles_le_of_exec`), of which its own tick takes
one, and the following ticks are `run_countDown`. -/
theorem instructionTicksCountDown : Obligations.InstructionTicksCountDown := by
  intro s hreset hcycles hcommands
  obtain ⟨u, hexec⟩ : ∃ u, exec (fetch s).1 (fetch s).2 = .next u := ⟨_, exec_eq_runOp _ _⟩
  have hclock := clock_of_exec hcycles hexec
  have hstep : step s = clock s := by rw [step_of_noCommands hcommands, command_clock_of_resetDone hreset]
  refine ⟨_, hstep.trans hclock, fun hbase => ?_, fun k hk => ?_⟩
  · have htwo := two_le_baseCycles hbase
    have hle := baseCycles_le_of_exec hexec
    rw [fetch_opcode, fetch_baseCycles] at hle
    rw [State.tick_cycles, State.setFlag_cycles, countDown_pos (by omega)]
    omega
  · have kept := clock_controlKept hclock
    exact run_countDown (kept.resetDone.trans hreset) (kept.hostCommands.trans hcommands) hk

end Sys2Proof.Machine
end

section
/-! Change notifications (spec 40_execution_and_addressing.md R136). -/

namespace Sys2Proof.Machine

/-- One register's part of the notifications. -/
theorem notify_sublist {c : Prop} [Decidable c] (n : Notification) : (if c then [] else [n]).Sublist [n] := by
  split
  · exact List.nil_sublist _
  · exact .refl _

/-- At most one notification of each register, in the order PC, P, S, A, X, Y (R136). -/
theorem notifications_sublist (s t : State) :
    (notifications s t).Sublist [.pc t.pc, .p t.p, .sp t.sp, .a t.a, .x t.x, .y t.y] :=
  (((((notify_sublist _).append (notify_sublist _)).append (notify_sublist _)).append (notify_sublist _)).append
    (notify_sublist _)).append (notify_sublist _)

theorem notifications_tick (s : State) : notifications s s.tick = [] := by
  simp [notifications]

/-- Settles O48: the clock answers by `clock_next`, the notifications are read off `notifications`, and a clock that
only counts is a tick. -/
theorem notificationsNameChanges : Obligations.NotificationsNameChanges := by
  refine fun s => ⟨fun hreset => ?_, fun t h => ?_⟩
  · rw [command_clock_of_resetDone hreset]
    exact clock_next s
  · refine ⟨?pc, ?p, ?sp, ?a, ?x, ?y, notifications_sublist s t, fun hcycles => ?_⟩
    case pc | p | sp | a | x | y => simp [notifications]
    cases (clock_of_cycles_ne_zero hcycles).symm.trans (next_of_accepted h)
    exact notifications_tick s

end Sys2Proof.Machine
end

section
/-! The operand byte M (spec 40_execution_and_addressing.md R139-R141, R149-R152): what fetch() reads, and what the
addressing routines read before it. -/

namespace Sys2Proof.Machine

/-- fetch() leaves M in `fetched`, makes its reads and changes nothing else. -/
theorem State.fetchOperand_eq (s : State) (o : Operand) :
    s.fetchOperand o = ((s.fetchOperand o).1,
      { s with fetched := (s.fetchOperand o).1, devices := (s.fetchOperand o).2.devices }) := by
  cases o <;> rfl

/-- In every mode but Implied and Immediate fetch() is one read of the effective address. -/
theorem value_devicesAfterFetch_eq {o : Operand} (himp : o.mode ≠ .imp) (himm : o.mode ≠ .imm) (s : State) :
    (o.value s, devicesAfterFetch o s) = Bus.read (devicesAfterResolve o s) (o.address s) false := by
  cases o
  case imp => exact absurd rfl himp
  case imm => exact absurd rfl himm
  all_goals rfl

theorem value_plain {o : Operand} (himp : o.mode ≠ .imp) (himm : o.mode ≠ .imm) {s : State} (h : s.plain = true) :
    o.value s = s.peek (o.address s) := by
  have hread := congrArg Prod.fst (value_devicesAfterFetch_eq himp himm s)
  rwa [devicesAfterResolve, Operand.resolve_plain o h, State.busRead_plain h] at hread

/-- Only the pointer modes' routines make reads. -/
theorem devicesAfterResolve_eq {o : Operand} (h : o.mode ∉ [Mode.ind, .izx, .izy]) (s : State) :
    devicesAfterResolve o s = s.devices := by
  cases o
  case ind | izx | izy => simp [Operand.mode] at h
  all_goals rfl

/-- The byte of an Immediate instruction is the one after its opcode, and PC is left past it. -/
theorem fetch_immediate {s : State} {b : Byte} (h : (fetch s).1.operand = .imm b) (hbrk : (fetch s).1 ≠ .brk) :
    b = s.lowRead.1 ∧ (fetch s).2.pc - 1 = s.pc + 1 := by
  have hbytes : (fetch s).1.operand.bytes = (formOf s.opcodeRead.1).operandBytes brkMode s.lowRead.1
      (word s.highRead.1 s.lowRead.1) := by
    rw [fetch_eq]
    exact formOf_instr_bytes ..
  rw [h] at hbytes
  cases hform : formOf s.opcodeRead.1 <;> simp only [hform, Operand.bytes, Form.operandBytes] at hbytes
  case whole | addr => cases hbytes
  case brk => exact absurd (by rw [fetch_of_brk hform]) hbrk
  case byte f =>
    cases hbytes
    rw [fetch_of_byte hform]
    refine ⟨rfl, ?_⟩
    simp only [State.afterFetch]
    bv_omega

/-- Settles O58: M is one read of the effective address (`value_devicesAfterFetch_eq`), Immediate's was made with the
instruction (`fetch_immediate`), and a pointer's two reads are those of `State.readPointer`, at the addresses of
`indirectHighAddr_eq_ofNat`, `zext16_add` and `zext16_add_one`. -/
theorem fetchReadsEffectiveAddress : Obligations.FetchReadsEffectiveAddress := by
  intro s
  refine ⟨⟨rfl, rfl⟩, fun b => ⟨rfl, rfl, fun hplain hoperand hbrk => ?_⟩,
    fun o himp himm => ⟨value_devicesAfterFetch_eq himp himm s, value_plain himp himm⟩,
    fun o => State.fetchOperand_eq _ o, fun o hmode => devicesAfterResolve_eq hmode s, ?_⟩
  · obtain ⟨rfl, hpc⟩ := fetch_immediate hoperand hbrk
    obtain ⟨-, hlow, -⟩ := State.reads_plain hplain
    rw [Operand.address_imm, hpc, hlow]
  · rintro o loAddr hiAddr offset (⟨ptr, rfl, rfl, rfl, rfl⟩ | ⟨t, rfl, rfl, rfl, rfl⟩ | ⟨t, rfl, rfl, rfl, rfl⟩)
    · rw [← indirectHighAddr_eq_ofNat]
      exact ⟨(BitVec.add_zero _).symm, rfl⟩
    · rw [← zext16_add, ← zext16_add_add_one]
      exact ⟨(BitVec.add_zero _).symm, rfl⟩
    · rw [← zext16_add_one, ← zext16_eq, ← zext16_eq]
      exact ⟨rfl, rfl⟩

end Sys2Proof.Machine
end

section
/-! The forms of a mnemonic (spec 30_encoding.md R102), read off the opcode map. -/

namespace Sys2Proof

open Sys2Proof.Machine

/-- The entry `HasForms` lists for an instruction: opcode byte, mode and base cycles. -/
def Instr.form (i : Instr) : Byte × Mode × Nat := (i.opcode, i.operand.mode, baseCycles i.opcode)

/-- The cells of a mnemonic in the opcode map, operands zero. -/
def Mnemonic.cells (m : Mnemonic) : List Instr :=
  (opcodeMap.flatten.map (·.instr 0 0)).filter (·.mnemonic = m)

theorem formOf_mem_opcodeMap (op : Byte) : formOf op ∈ opcodeMap.flatten := by
  have rows : ∀ row ∈ opcodeMap, row.length = 16 := by decide
  have hrow : op.toNat / 16 < opcodeMap.length := by
    have hlength : opcodeMap.length = 16 := rfl
    omega
  have hmem : opcodeMap[op.toNat / 16] ∈ opcodeMap := List.getElem_mem hrow
  have hcolumn : op.toNat % 16 < opcodeMap[op.toNat / 16].length := by
    rw [rows _ hmem]
    omega
  rw [formOf, ← List.getElem_eq_getD (h := hrow), ← List.getElem_eq_getD (h := hcolumn)]
  exact List.mem_flatten.2 ⟨_, hmem, List.getElem_mem hcolumn⟩

theorem Instr.wellFormed_of_mnemonic {i : Instr} (h : i.mnemonic ≠ .xxx) : i.wellFormed = true := by
  cases i
  case xxx => exact absurd rfl h
  all_goals rfl

/-- A documented instruction has the form of its own cell, which is one of its mnemonic's. -/
theorem Instr.exists_cell {i : Instr} (h : i.mnemonic ≠ .xxx) : ∃ j ∈ i.mnemonic.cells, j.form = i.form := by
  have hi := formOf_opcode_instr (Instr.wellFormed_of_mnemonic h)
  have hmnemonic : ((formOf i.opcode).instr 0 0).mnemonic = i.mnemonic :=
    (formOf_instr_mnemonic i.opcode 0 _ 0 _).trans (congrArg Instr.mnemonic hi)
  have hmode : ((formOf i.opcode).instr 0 0).operand.mode = i.operand.mode :=
    (formOf_instr_mode brkMode i.opcode 0 _ 0 _).trans (congrArg (·.operand.mode) hi)
  refine ⟨(formOf i.opcode).instr 0 0, ?_, ?_⟩
  · exact List.mem_filter.2 ⟨List.mem_map_of_mem (formOf_mem_opcodeMap _), decide_eq_true hmnemonic⟩
  · rw [Instr.form, hmode, formOf_instr_opcode, Instr.form]

theorem Mnemonic.mnemonic_of_mem_cells {m : Mnemonic} {i : Instr} (h : i ∈ m.cells) : i.mnemonic = m :=
  of_decide_eq_true (List.mem_filter.1 h).2

/-- A documented mnemonic's forms are those of its cells, in any order. -/
theorem hasForms_of_cells {m : Mnemonic} {forms : List (Byte × Mode × Nat)} (hm : m ≠ .xxx)
    (h : (m.cells.map Instr.form).Perm forms) : HasForms m forms := by
  constructor
  · rintro i rfl
    obtain ⟨j, hj, hform⟩ := Instr.exists_cell hm
    exact h.mem_iff.1 (List.mem_map.2 ⟨j, hj, hform⟩)
  · intro form hform
    obtain ⟨i, hi, rfl⟩ := List.mem_map.1 (h.mem_iff.2 hform)
    exact ⟨i, Mnemonic.mnemonic_of_mem_cells hi, rfl⟩

end Sys2Proof
end

section
/-! The frame of an instruction, from what its mnemonic may write (spec 10_state.md R21-R33, R39, R41, 20_memory.md
R77). -/

namespace Sys2Proof.Machine

/-! ## The current opcode, which no operation routine writes -/

@[simp] theorem State.addWithCarry_opcode (s : State) (m : Byte) : (s.addWithCarry m).opcode = s.opcode := by
  simp [State.addWithCarry]

@[simp] theorem State.branch_opcode (s : State) (cond : Bool) : (s.branch cond).opcode = s.opcode := by
  cases cond <;> rfl

@[simp] theorem State.writeBack_opcode (s : State) (o : Operand) (r : Byte) :
    (s.writeBack o r).opcode = s.opcode := by
  cases o <;> rfl

@[simp] theorem State.enterHandler_opcode (s : State) (stacked live : Byte) (vector : Word) :
    (s.enterHandler stacked live vector).opcode = s.opcode := by
  rw [State.enterHandler_eq]

@[simp] theorem State.returnFromHandler_opcode (s : State) : s.returnFromHandler.opcode = s.opcode := by
  rw [State.returnFromHandler_eq]

theorem shiftOp_opcode (f : Byte → Bool → Shifted) (o : Operand) (s : State) :
    (shiftOp f o s).1.opcode = s.opcode := by
  simp [shiftOp]

theorem operation_opcode (i : Instr) (o : Operand) (s : State) : (i.operation o s).1.opcode = s.opcode := by
  unfold Instr.operation
  cases i.mnemonic
  case adc | sbc => simp [opAdc, opSbc]
  case lda | ldx | ldy | and | ora | eor | bit | cmp | cpx | cpy | inc | dec =>
    exact s.fetchOperand_opcode o
  case asl | lsr | rol | ror => exact shiftOp_opcode _ o s
  case bcc | bcs | beq | bmi | bne | bpl | bvc | bvs => exact s.branch_opcode _
  case brk => exact State.enterHandler_opcode { s with pc := s.pc + 1 } _ _ _
  case rti => exact s.returnFromHandler_opcode
  case sta | stx | sty | tax | tay | tsx | txa | txs | tya | inx | iny | dex | dey | jmp | jsr | rts | pha
      | php | pla | plp | clc | cld | cli | clv | sec | sed | sei | nop | xxx => rfl

theorem exec_opcode {i : Instr} {s t : State} (h : exec i s = .next t) : t.opcode = s.opcode := by
  obtain ⟨extra, rfl⟩ := exec_cases h
  exact (operation_opcode i _ (i.resolved s)).trans (i.resolved_opcode s)

/-! ## Memory -/

/-- The bytes an instruction that writes no memory keeps: all of them. -/
theorem bytesKept_of_devices {s t : State} (h : t.devices = s.devices) : BytesKept [] s t :=
  fun a _ => State.peek_congr h a

/-- The bytes one write keeps: all but its own. -/
theorem bytesKept_of_write {s t : State} {a : Word} {v : Byte} (hplain : s.plain = true)
    (hcanonical : s.canonical = true) (h : t.devices = Bus.write s.devices a v) : BytesKept [a] s t := by
  intro b hb
  have hne : b ≠ a := by simpa using hb
  exact (State.peek_congr (s := s.memWrite a v) h b).trans (State.peek_memWrite_other hplain hcanonical hne v)

/-! ## The whole frame -/

/-- The frame of any instruction: what its mnemonic is not listed to write, with the bytes it keeps given. -/
theorem exec_frame {i : Instr} {s t : State} {regs : List Reg} {flags : List Flag} {stored : List Word}
    (h : exec i s = .next t) (hregs : i.mnemonic.regsWritten (i.operand = .imp) ⊆ regs)
    (hflags : i.mnemonic.flagsWritten ⊆ flags)
    (hbytes : s.plain = true → s.canonical = true → BytesKept stored s t) : Frame regs flags stored s t := by
  obtain ⟨htotal, hreset, hcommands⟩ := exec_controlKept h
  obtain ⟨hconfig, -⟩ := exec_busKept h
  exact ⟨fun r hr => exec_reg h (mt (@hregs r) hr), fun f hf => exec_flag h (mt (@hflags f) hf), htotal,
    exec_opcode h, hreset, hcommands, exec_params h, hconfig, hbytes⟩

/-- The frame of an instruction whose mnemonic never writes memory. -/
theorem exec_frame_of_not_writer {i : Instr} {s t : State} {regs : List Reg} {flags : List Flag}
    (h : exec i s = .next t) (hregs : i.mnemonic.regsWritten (i.operand = .imp) ⊆ regs)
    (hflags : i.mnemonic.flagsWritten ⊆ flags) (hmem : i.mnemonic ∉ memoryWriters ++ shiftMnemonics) :
    Frame regs flags [] s t := by
  obtain ⟨hwriter, hshift⟩ : i.mnemonic ∉ memoryWriters ∧ i.mnemonic ∉ shiftMnemonics := by simpa using hmem
  exact exec_frame h hregs hflags fun hplain _ =>
    bytesKept_of_devices (onlyListedInstructionsWriteMemory i s t h hplain hwriter fun hi => absurd hi hshift)

end Sys2Proof.Machine
end

section
/-! Running an instruction other than BRK, whose operand depends on BRK_MODE: the state its operation starts from, the
state after fetch(), and the cycles it leaves (spec 40_execution_and_addressing.md R131, R134, R139). -/

namespace Sys2Proof

open Sys2Proof.Machine

theorem Instr.resolved_eq {i : Instr} (h : i.mnemonic ≠ .brk) (s : State) :
    i.resolved s = { (i.operand.resolve s).1 with cycles := s.baseCycles i.opcode } := by
  rw [Instr.resolved, Instr.operandWith_eq _ h]

theorem Instr.operand_of_soleForm {i : Instr} {o : Operand} (h : i.mnemonic.soleForm.map Instr.operand = some o) :
    i.operand = o := by
  obtain ⟨j, hj, rfl⟩ := Option.map_eq_some_iff.1 h
  rw [Instr.eq_of_soleForm hj]

/-- The Implied routine makes no bus access (R140). -/
theorem Instr.resolved_devices_of_imp {i : Instr} (hbrk : i.mnemonic ≠ .brk) (h : i.operand = .imp) (s : State) :
    (i.resolved s).devices = s.devices := by
  rw [Instr.resolved_eq hbrk, h]
  rfl

/-- The state after an instruction's addressing routine and fetch(), its base count set. -/
def Instr.fetched (i : Instr) (s : State) : State :=
  { ((i.operand.resolve s).1.fetchOperand i.operand).2 with cycles := s.baseCycles i.opcode }

@[simp] theorem Instr.fetched_reg (i : Instr) (s : State) (r : Reg) : (i.fetched s).reg r = s.reg r := by
  cases r <;> simp [Instr.fetched, State.reg]

@[simp] theorem Instr.fetched_pc (i : Instr) (s : State) : (i.fetched s).pc = s.pc := by simp [Instr.fetched]

@[simp] theorem Instr.fetched_p (i : Instr) (s : State) : (i.fetched s).p = s.p := by simp [Instr.fetched]

@[simp] theorem Instr.fetched_cycles (i : Instr) (s : State) : (i.fetched s).cycles = s.baseCycles i.opcode := rfl

@[simp] theorem Instr.fetched_devices (i : Instr) (s : State) :
    (i.fetched s).devices = devicesAfterFetch i.operand s := rfl

/-- fetch() after the addressing routine gives M. -/
theorem Instr.fetchOperand_resolved {i : Instr} (h : i.mnemonic ≠ .brk) (s : State) :
    (i.resolved s).fetchOperand i.operand = (i.operand.value s, i.fetched s) := by
  rw [Instr.resolved_eq h, fetchOperand_resolve, Instr.fetched]

end Sys2Proof

namespace Sys2Proof.Machine

/-- An instruction leaves what its operation gives on the resolved state, with the page-cross cycle added where the
operation asks for it. -/
theorem exec_eq_of_operation {i : Instr} {s u : State} {returns : Bool} (hbrk : i.mnemonic ≠ .brk)
    (h : i.operation i.operand (i.resolved s) = (u, returns)) (hcycles : u.cycles = s.baseCycles i.opcode) :
    exec i s = .next { u with cycles := cyclesWith i returns s } := by
  rw [Instr.resolved_eq hbrk] at h
  rw [exec_eq_runOp, runOp_eq, Instr.operandWith_eq _ hbrk, h]
  simp only [hcycles]
  rfl

/-! ## Writing a register, and Z and N -/

/-- Write a register. -/
def State.setReg (s : State) (r : Reg) (v : Byte) : State :=
  match r with
  | .a => { s with a := v }
  | .x => { s with x := v }
  | .y => { s with y := v }
  | .sp => { s with sp := v }

@[simp] theorem State.reg_setReg (s : State) (r : Reg) (v : Byte) : (s.setReg r v).reg r = v := by
  cases r <;> rfl

@[simp] theorem State.setReg_pc (s : State) (r : Reg) (v : Byte) : (s.setReg r v).pc = s.pc := by
  cases r <;> rfl

@[simp] theorem State.setReg_cycles (s : State) (r : Reg) (v : Byte) : (s.setReg r v).cycles = s.cycles := by
  cases r <;> rfl

@[simp] theorem State.setReg_devices (s : State) (r : Reg) (v : Byte) : (s.setReg r v).devices = s.devices := by
  cases r <;> rfl

theorem State.reg_setZN_setReg (s : State) (r : Reg) (v : Byte) : ((s.setReg r v).setZN v).reg r = v := by
  rw [State.setZN_reg, State.reg_setReg]

theorem State.setZN_znFrom (s : State) (v : Byte) : ZNFrom v (s.setZN v) := by
  simp [ZNFrom, State.setZN, BitVec.msb_eq_getLsbD_last]

end Sys2Proof.Machine
end

section
/-! Loads, stores and transfers (spec 41_load_store_transfer.md R170-R181). -/

namespace Sys2Proof.Machine

/-! ## Loads -/

/-- The loads, each with the register it loads. -/
def loads : List (Mnemonic × Reg) := [(.lda, .a), (.ldx, .x), (.ldy, .y)]

/-- A load fetches M into its register, sets Z and N from it and returns 1. -/
theorem operation_load {i : Instr} {r : Reg} (h : (i.mnemonic, r) ∈ loads) (o : Operand) (s : State) :
    i.operation o s = (((s.fetchOperand o).2.setReg r (s.fetchOperand o).1).setZN (s.fetchOperand o).1, true) := by
  simp only [loads, List.mem_cons, Prod.mk.injEq, List.not_mem_nil, or_false] at h
  obtain ⟨hm, rfl⟩ | ⟨hm, rfl⟩ | ⟨hm, rfl⟩ := h <;> simp only [Instr.operation, hm] <;> rfl

/-- What a load's mnemonic may write; BRK is none of them. -/
theorem loads_writes : ∀ p ∈ loads, p.1 ≠ .brk ∧ (∀ implied, p.1.regsWritten implied ⊆ [p.2])
    ∧ p.1.flagsWritten ⊆ [.z, .n] ∧ p.1 ∉ memoryWriters ++ shiftMnemonics := by decide

theorem exec_load {i : Instr} {r : Reg} (h : (i.mnemonic, r) ∈ loads) (s : State) :
    exec i s = .next { ((i.fetched s).setReg r (i.operand.value s)).setZN (i.operand.value s) with
      cycles := cyclesWith i true s } := by
  obtain ⟨hbrk, -⟩ := loads_writes _ h
  apply exec_eq_of_operation hbrk
  · rw [operation_load h, Instr.fetchOperand_resolved hbrk]
  · simp

/-- Settles O15: the run is `exec_load`, the frame what a load's mnemonic may write. -/
theorem loadsLoadOperand : Obligations.LoadsLoadOperand := by
  refine ⟨hasForms_of_cells (by decide) (by decide), hasForms_of_cells (by decide) (by decide),
    hasForms_of_cells (by decide) (by decide), fun i s r h => ?_⟩
  obtain ⟨-, hregs, hflags, hmem⟩ := loads_writes _ h
  have hexec := exec_load h s
  have hreg := (i.fetched s).reg_setZN_setReg r (i.operand.value s)
  exact ⟨_, hexec, hreg, State.setZN_znFrom _ _, by simp, rfl, by simp,
    exec_frame_of_not_writer hexec (hregs _) hflags hmem⟩

/-! ## Stores -/

/-- The stores, each with the register it stores. -/
def stores : List (Mnemonic × Reg) := [(.sta, .a), (.stx, .x), (.sty, .y)]

/-- A store writes its register to the effective address and returns 0. -/
theorem operation_store {i : Instr} {r : Reg} (h : (i.mnemonic, r) ∈ stores) (o : Operand) (s : State) :
    i.operation o s = (s.memWrite s.addrAbs (s.reg r), false) := by
  simp only [stores, List.mem_cons, Prod.mk.injEq, List.not_mem_nil, or_false] at h
  obtain ⟨hm, rfl⟩ | ⟨hm, rfl⟩ | ⟨hm, rfl⟩ := h <;> simp only [Instr.operation, hm] <;> rfl

/-- What a store's mnemonic may write; BRK is none of them. -/
theorem stores_writes : ∀ p ∈ stores, p.1 ≠ .brk ∧ (∀ implied, p.1.regsWritten implied ⊆ [])
    ∧ p.1.flagsWritten ⊆ [] := by decide

theorem exec_store {i : Instr} {r : Reg} (h : (i.mnemonic, r) ∈ stores) (s : State) :
    exec i s = .next { (i.operand.resolve s).1.memWrite (i.operand.address s) (s.reg r) with
      cycles := cyclesWith i false s } := by
  obtain ⟨hbrk, -⟩ := stores_writes _ h
  rw [exec_eq_of_operation hbrk (operation_store h _ _) rfl, Instr.resolved_reg, Instr.resolved_eq hbrk]
  rfl

/-- Settles O16: the run is `exec_store`; on plain memory the routine's reads change nothing, so its one write is all
that memory sees. -/
theorem storesWriteRegister : Obligations.StoresWriteRegister := by
  refine ⟨hasForms_of_cells (by decide) (by decide), hasForms_of_cells (by decide) (by decide),
    hasForms_of_cells (by decide) (by decide), fun i s r h => ?_⟩
  obtain ⟨-, hregs, hflags⟩ := stores_writes _ h
  have hexec := exec_store h s
  refine ⟨_, hexec, rfl, by simp, by simp, rfl, exec_frame hexec (hregs _) hflags fun hplain hcanonical => ?_⟩
  apply bytesKept_of_write (v := s.reg r) hplain hcanonical
  rw [← i.operand.resolve_plain hplain]
  rfl

/-! ## Transfers -/

/-- The transfers that set Z and N, each with its source and its destination. -/
def transfers : List (Mnemonic × Reg × Reg) :=
  [(.tax, .a, .x), (.tay, .a, .y), (.tsx, .sp, .x), (.txa, .x, .a), (.tya, .y, .a)]

/-- A transfer copies its source to its destination, sets Z and N from it and returns 0. -/
theorem operation_transfer {i : Instr} {src dst : Reg} (h : (i.mnemonic, src, dst) ∈ transfers) (o : Operand)
    (s : State) : i.operation o s = ((s.setReg dst (s.reg src)).setZN (s.reg src), false) := by
  simp only [transfers, List.mem_cons, Prod.mk.injEq, List.not_mem_nil, or_false] at h
  obtain ⟨hm, rfl, rfl⟩ | ⟨hm, rfl, rfl⟩ | ⟨hm, rfl, rfl⟩ | ⟨hm, rfl, rfl⟩ | ⟨hm, rfl, rfl⟩ := h <;>
    simp only [Instr.operation, hm] <;> rfl

theorem transfers_operand : ∀ p ∈ transfers, p.1.soleForm.map Instr.operand = some .imp := by decide

/-- What a transfer's mnemonic may write; BRK is none of them. -/
theorem transfers_writes : ∀ p ∈ transfers, p.1 ≠ .brk ∧ (∀ implied, p.1.regsWritten implied ⊆ [p.2.2])
    ∧ p.1.flagsWritten ⊆ [.z, .n] ∧ p.1 ∉ memoryWriters ++ shiftMnemonics := by decide

theorem exec_transfer {i : Instr} {src dst : Reg} (h : (i.mnemonic, src, dst) ∈ transfers) (s : State) :
    exec i s = .next { ((i.resolved s).setReg dst (s.reg src)).setZN (s.reg src) with
      cycles := cyclesWith i false s } := by
  obtain ⟨hbrk, -⟩ := transfers_writes _ h
  rw [exec_eq_of_operation hbrk (operation_transfer h _ _) (by simp), Instr.resolved_reg]

theorem exec_txs (s : State) :
    exec .txs s = .next { s with sp := s.x, fetched := s.a, cycles := cyclesWith .txs false s } := rfl

/-- Settles O17: the runs are `exec_transfer` and `exec_txs`, the frames what a transfer's mnemonic may write. -/
theorem transfersCopyRegister : Obligations.TransfersCopyRegister := by
  refine ⟨hasForms_of_soleForm (i := .tax) rfl (by decide), hasForms_of_soleForm (i := .tay) rfl (by decide),
    hasForms_of_soleForm (i := .tsx) rfl (by decide), hasForms_of_soleForm (i := .txa) rfl (by decide),
    hasForms_of_soleForm (i := .txs) rfl (by decide), hasForms_of_soleForm (i := .tya) rfl (by decide),
    fun i s src dst h => ?_, fun s => ?_⟩
  · obtain ⟨hbrk, hregs, hflags, hmem⟩ := transfers_writes _ h
    have hdevices := Instr.resolved_devices_of_imp hbrk (Instr.operand_of_soleForm (transfers_operand _ h)) s
    have hexec := exec_transfer h s
    have hreg := (i.resolved s).reg_setZN_setReg dst (s.reg src)
    exact ⟨_, hexec, hreg, State.setZN_znFrom _ _, by simp, rfl, by simpa using hdevices,
      exec_frame_of_not_writer hexec (hregs _) hflags hmem⟩
  · exact ⟨_, exec_txs s, rfl, rfl, rfl, rfl, rfl,
      exec_frame_of_not_writer (exec_txs s) (by decide) (by decide) (by decide)⟩

end Sys2Proof.Machine
end

section
/-! Addition and subtraction (spec 42_arithmetic_logic.md R190, R191), and the run of any operation that begins with
fetch(). -/

namespace Sys2Proof

open Sys2Proof.Machine

@[simp] theorem Instr.fetched_a (i : Instr) (s : State) : (i.fetched s).a = s.a := i.fetched_reg s .a

@[simp] theorem Instr.fetched_flag (i : Instr) (s : State) (f : Flag) : (i.fetched s).flag f = s.flag f :=
  State.flag_congr (i.fetched_p s) f

/-- fetch() leaves `addr_abs` as the addressing routine wrote it. -/
@[simp] theorem Instr.fetched_addrAbs (i : Instr) (s : State) : (i.fetched s).addrAbs = i.operand.address s :=
  State.fetchOperand_addrAbs _ _

end Sys2Proof

namespace Sys2Proof.Machine

/-- An instruction whose operation is `M <- fetch()`, then `g` with M, leaves what `g` makes of the fetched state. -/
theorem exec_of_fetching {i : Instr} {g : State → Byte → State} {returns : Bool} (hbrk : i.mnemonic ≠ .brk)
    (hop : ∀ o s, i.operation o s = (g (s.fetchOperand o).2 (s.fetchOperand o).1, returns))
    (hcycles : ∀ s m, (g s m).cycles = s.cycles) (s : State) :
    exec i s = .next { g (i.fetched s) (i.operand.value s) with cycles := cyclesWith i returns s } := by
  apply exec_eq_of_operation hbrk
  · rw [hop, Instr.fetchOperand_resolved hbrk]
  · rw [hcycles, Instr.fetched_cycles]

/-- Setting the cycle count changes no flag: rewriting with this spares a proof the comparison of the two counts. -/
theorem State.flag_withCycles (s : State) (n : Nat) (f : Flag) : State.flag { s with cycles := n } f = s.flag f := rfl

/-! ## The binary addition -/

/-- What an addition with the wide sum `tmp` of A, M and C leaves in A and in C, Z, N and V (R190). -/
def SumLeft (tmp : Nat) (a m : Byte) (t : State) : Prop :=
  t.a = BitVec.ofNat 8 tmp ∧ (t.flag .c = true ↔ 255 < tmp) ∧ (t.flag .z = true ↔ tmp % 256 = 0)
    ∧ t.flag .n = (BitVec.ofNat 8 tmp).msb
    ∧ (t.flag .v = true ↔ ~~~ (a ^^^ m) &&& (a ^^^ BitVec.ofNat 8 tmp) &&& 0x80 ≠ 0)

theorem byte_ofNat_eq_zero_iff (n : Nat) : BitVec.ofNat 8 n = 0 ↔ n % 256 = 0 := by
  rw [← BitVec.toNat_inj, BitVec.toNat_ofNat]
  rfl

theorem State.flag_addWithCarry_c (s : State) (m : Byte) :
    (s.addWithCarry m).flag .c = addCarry s.a m (s.flag .c) := by
  simp [State.addWithCarry, State.flag]

theorem State.flag_addWithCarry_z (s : State) (m : Byte) :
    (s.addWithCarry m).flag .z = decide (addResult s.a m (s.flag .c) = 0) := by
  simp [State.addWithCarry, State.flag]

theorem State.flag_addWithCarry_v (s : State) (m : Byte) :
    (s.addWithCarry m).flag .v = addOverflow s.a m (s.flag .c) := by
  simp [State.addWithCarry, State.flag]

theorem State.flag_addWithCarry_n (s : State) (m : Byte) :
    (s.addWithCarry m).flag .n = (addResult s.a m (s.flag .c)).msb := by
  simp [State.addWithCarry, State.flag, BitVec.msb_eq_getLsbD_last]

theorem State.addWithCarry_sumLeft (s : State) (m : Byte) :
    SumLeft (addTmp s.a m (s.flag .c)) s.a m (s.addWithCarry m) := by
  refine ⟨rfl, ?_, ?_, s.flag_addWithCarry_n m, ?_⟩
  · rw [State.flag_addWithCarry_c]
    exact decide_eq_true_iff
  · rw [State.flag_addWithCarry_z, decide_eq_true_iff]
    exact byte_ofNat_eq_zero_iff _
  · rw [State.flag_addWithCarry_v]
    exact decide_eq_true_iff

@[simp] theorem State.addWithCarry_pc (s : State) (m : Byte) : (s.addWithCarry m).pc = s.pc := by
  simp [State.addWithCarry]

/-! ## ADC and SBC -/

/-- The mnemonics that add, each with what it adds for the fetched byte: SBC its complement (R191). -/
def additions : List (Mnemonic × (Byte → Byte)) := [(.adc, id), (.sbc, (· ^^^ 0xFF))]

/-- What an addition's mnemonic may write; BRK is none of them. -/
theorem additions_writes : ∀ p ∈ additions, p.1 ≠ .brk ∧ (∀ implied, p.1.regsWritten implied ⊆ [.a])
    ∧ p.1.flagsWritten ⊆ [.c, .z, .v, .n] ∧ p.1 ∉ memoryWriters ++ shiftMnemonics := by decide

/-- An addition fetches M, adds it or its complement and returns 1. -/
theorem operation_addition {i : Instr} {f : Byte → Byte} (h : (i.mnemonic, f) ∈ additions) (o : Operand) (s : State) :
    i.operation o s = ((s.fetchOperand o).2.addWithCarry (f (s.fetchOperand o).1), true) := by
  simp only [additions, List.mem_cons, Prod.mk.injEq, List.not_mem_nil, or_false] at h
  obtain ⟨hm, rfl⟩ | ⟨hm, rfl⟩ := h <;> simp only [Instr.operation, hm] <;> rfl

/-- The run ADC and SBC share. -/
theorem exec_addition {i : Instr} {f : Byte → Byte} (h : (i.mnemonic, f) ∈ additions) (s : State) :
    ∃ t, exec i s = .next t
      ∧ SumLeft (addTmp s.a (f (i.operand.value s)) (s.flag .c)) s.a (f (i.operand.value s)) t
      ∧ t.pc = s.pc ∧ t.cycles = cyclesWith i true s ∧ t.devices = devicesAfterFetch i.operand s
      ∧ Frame [.a] [.c, .z, .v, .n] [] s t := by
  obtain ⟨hbrk, hregs, hflags, hmem⟩ := additions_writes _ h
  have hexec := exec_of_fetching (g := fun s m => s.addWithCarry (f m)) hbrk (operation_addition h) (by simp) s
  have hsum := (i.fetched s).addWithCarry_sumLeft (f (i.operand.value s))
  rw [Instr.fetched_a, Instr.fetched_flag] at hsum
  exact ⟨_, hexec, hsum, by simp, rfl, by simp, exec_frame_of_not_writer hexec (hregs _) hflags hmem⟩

/-! ## The overflow as a reading of signs -/

theorem and_0x80_ne_zero_iff (b : Byte) : b &&& 0x80 ≠ 0 ↔ b.msb = true := by
  have h : b &&& 0x80 = if b.getLsbD 7 then 0x80 else 0 := BitVec.and_twoPow b 7
  rw [h, BitVec.msb_eq_getLsbD_last]
  cases b.getLsbD 7 <;> decide

/-- V is set exactly when the summands' signs agree and the result's differs (R190). -/
theorem overflow_iff_signs (a m r : Byte) :
    ~~~ (a ^^^ m) &&& (a ^^^ r) &&& 0x80 ≠ 0 ↔ a.msb = m.msb ∧ r.msb ≠ a.msb := by
  rw [and_0x80_ne_zero_iff, BitVec.msb_and, BitVec.msb_not, BitVec.msb_xor, BitVec.msb_xor]
  cases a.msb <;> cases m.msb <;> cases r.msb <;> decide

/-- Settles O18: the run is `exec_addition`, the sign reading of V `overflow_iff_signs`. -/
theorem adcAddsWithCarry : Obligations.AdcAddsWithCarry := by
  refine ⟨hasForms_of_cells (by decide) (by decide), fun i s h => ?_⟩
  obtain ⟨t, hexec, ⟨ha, hc, hz, hn, hv⟩, hrest⟩ := exec_addition (i := i) (f := id) (by simp [additions, h]) s
  exact ⟨t, hexec, ⟨ha, hc, hz, hn, hv, hv.trans (overflow_iff_signs _ _ _)⟩, hrest⟩

/-! ## The sum with the complement as a subtraction -/

theorem xor_0xFF_toNat (m : Byte) : (m ^^^ 0xFF).toNat = 255 - m.toNat := by
  have h : m ^^^ 0xFF = ~~~ m := BitVec.xor_allOnes
  rw [h, BitVec.toNat_not]

/-- Adding the complement and the carry subtracts, the missing carry being the borrow (R191). -/
theorem ofNat_addTmp_complement (a m : Byte) (c : Bool) :
    BitVec.ofNat 8 (addTmp a (m ^^^ 0xFF) c) = a - m - BitVec.ofNat 8 (1 - bit c) := by
  rw [addTmp, xor_0xFF_toNat]
  cases c <;> simp only [bit, if_true, Bool.false_eq_true, if_false] <;> bv_omega

/-- The sum with the complement carries exactly when the subtraction does not borrow (R191). -/
theorem addTmp_complement_carries_iff (a m : Byte) (c : Bool) :
    255 < addTmp a (m ^^^ 0xFF) c ↔ m.toNat + (1 - bit c) ≤ a.toNat := by
  rw [addTmp, xor_0xFF_toNat]
  cases c <;> simp only [bit, if_true, Bool.false_eq_true, if_false] <;> omega

/-- Settles O19: the run is `exec_addition` with the complement, which `ofNat_addTmp_complement` and
`addTmp_complement_carries_iff` read as a subtraction. -/
theorem sbcSubtractsWithBorrow : Obligations.SbcSubtractsWithBorrow := by
  refine ⟨hasForms_of_cells (by decide) (by decide), fun i s h => ?_⟩
  obtain ⟨t, hexec, ⟨ha, hc, hz, hn, hv⟩, hrest⟩ :=
    exec_addition (i := i) (f := (· ^^^ 0xFF)) (by simp [additions, h]) s
  exact ⟨t, hexec, ⟨ha, hc, hz, hn, hv, ha.trans (ofNat_addTmp_complement _ _ _),
    hc.trans (addTmp_complement_carries_iff _ _ _)⟩, hrest⟩

end Sys2Proof.Machine
end

section
/-! Logic and comparison: AND, ORA, EOR, BIT, CMP, CPX and CPY (spec 42_arithmetic_logic.md R192-R198). -/

namespace Sys2Proof.Machine

/-! ## AND, ORA and EOR -/

/-- The mnemonics that combine A with M, each with its combination. -/
def combinations : List (Mnemonic × (Byte → Byte → Byte)) :=
  [(.and, (· &&& ·)), (.ora, (· ||| ·)), (.eor, (· ^^^ ·))]

/-- What a combination's mnemonic may write; BRK is none of them. -/
theorem combinations_writes : ∀ p ∈ combinations, p.1 ≠ .brk ∧ (∀ implied, p.1.regsWritten implied ⊆ [.a])
    ∧ p.1.flagsWritten ⊆ [.z, .n] ∧ p.1 ∉ memoryWriters ++ shiftMnemonics := by decide

/-- A combination fetches M, combines it into A, sets Z and N from the result and returns 1. -/
theorem operation_combination {i : Instr} {f : Byte → Byte → Byte} (h : (i.mnemonic, f) ∈ combinations) (o : Operand)
    (s : State) : i.operation o s =
      (((s.fetchOperand o).2.setReg .a (f (s.fetchOperand o).2.a (s.fetchOperand o).1)).setZN
        (f (s.fetchOperand o).2.a (s.fetchOperand o).1), true) := by
  simp only [combinations, List.mem_cons, Prod.mk.injEq, List.not_mem_nil, or_false] at h
  obtain ⟨hm, rfl⟩ | ⟨hm, rfl⟩ | ⟨hm, rfl⟩ := h <;> simp only [Instr.operation, hm] <;> rfl

theorem exec_combination {i : Instr} {f : Byte → Byte → Byte} (h : (i.mnemonic, f) ∈ combinations) (s : State) :
    exec i s = .next { ((i.fetched s).setReg .a (f s.a (i.operand.value s))).setZN (f s.a (i.operand.value s)) with
      cycles := cyclesWith i true s } := by
  obtain ⟨hbrk, -⟩ := combinations_writes _ h
  rw [exec_of_fetching (g := fun s m => (s.setReg .a (f s.a m)).setZN (f s.a m)) hbrk (operation_combination h)
    (by simp), Instr.fetched_a]

/-- Settles O21: the run is `exec_combination`, the frame what a combination's mnemonic may write. -/
theorem logicCombinesWithA : Obligations.LogicCombinesWithA := by
  refine ⟨hasForms_of_cells (by decide) (by decide), hasForms_of_cells (by decide) (by decide),
    hasForms_of_cells (by decide) (by decide), fun i s f hf => ?_⟩
  have h : (i.mnemonic, f) ∈ combinations := by simpa [combinations] using hf
  obtain ⟨-, hregs, hflags, hmem⟩ := combinations_writes _ h
  have hexec := exec_combination h s
  exact ⟨_, hexec, rfl, State.setZN_znFrom _ _, by simp, rfl, by simp,
    exec_frame_of_not_writer hexec (hregs _) hflags hmem⟩

/-! ## BIT -/

@[simp] theorem State.bitTest_pc (s : State) (m : Byte) : (s.bitTest m).pc = s.pc := rfl

@[simp] theorem State.bitTest_devices (s : State) (m : Byte) : (s.bitTest m).devices = s.devices := rfl

theorem State.flag_bitTest_z (s : State) (m : Byte) : (s.bitTest m).flag .z = true ↔ s.a &&& m = 0 := by
  simp [State.bitTest]

theorem State.flag_bitTest_n (s : State) (m : Byte) : (s.bitTest m).flag .n = m.getLsbD 7 := by
  simp [State.bitTest]

theorem State.flag_bitTest_v (s : State) (m : Byte) : (s.bitTest m).flag .v = m.getLsbD 6 := by
  simp [State.bitTest]

theorem exec_bit {i : Instr} (h : i.mnemonic = .bit) (s : State) :
    exec i s = .next { (i.fetched s).bitTest (i.operand.value s) with cycles := cyclesWith i false s } := by
  apply exec_of_fetching (g := State.bitTest) (by simp [h]) (fun o s => ?_) (fun _ _ => rfl)
  simp only [Instr.operation, h]
  rfl

/-- Settles O22: the run is `exec_bit`, its flags those of `State.bitTest`. -/
theorem bitTestsOperand : Obligations.BitTestsOperand := by
  refine ⟨hasForms_of_cells (by decide) (by decide), fun i s h => ?_⟩
  have hexec := exec_bit h s
  have hframe : Frame [] [.z, .v, .n] [] s _ := exec_frame_of_not_writer hexec
    (by rw [h]; exact List.Subset.refl _) (by rw [h]; exact List.Subset.refl _) (by rw [h]; decide)
  refine ⟨_, hexec, ?_, ?_, ?_, by simp, rfl, by simp, hframe⟩ <;> rw [State.flag_withCycles]
  · rw [State.flag_bitTest_z, Instr.fetched_a]
  · exact State.flag_bitTest_n _ _
  · exact State.flag_bitTest_v _ _

/-! ## Comparisons -/

/-- The comparisons, each with its register and the bit it returns. -/
def comparisons : List (Mnemonic × Reg × Bool) := [(.cmp, .a, true), (.cpx, .x, false), (.cpy, .y, false)]

/-- What a comparison's mnemonic may write; BRK is none of them. -/
theorem comparisons_writes : ∀ p ∈ comparisons, p.1 ≠ .brk ∧ (∀ implied, p.1.regsWritten implied ⊆ [])
    ∧ p.1.flagsWritten ⊆ [.c, .z, .n] ∧ p.1 ∉ memoryWriters ++ shiftMnemonics := by decide

@[simp] theorem State.compare_pc (s : State) (v m : Byte) : (s.compare v m).pc = s.pc := rfl

@[simp] theorem State.compare_devices (s : State) (v m : Byte) : (s.compare v m).devices = s.devices := rfl

theorem State.flag_compare_c (s : State) (v m : Byte) :
    (s.compare v m).flag .c = true ↔ m.toNat ≤ v.toNat := by
  simp [State.compare, State.setZN]

theorem State.flag_compare_z (s : State) (v m : Byte) : (s.compare v m).flag .z = true ↔ v = m := by
  have hflag : (s.compare v m).flag .z = decide (v - m = 0x00) := by simp [State.compare, State.setZN]
  rw [hflag, decide_eq_true_iff]
  exact sub_eq_zero

theorem State.flag_compare_n (s : State) (v m : Byte) : (s.compare v m).flag .n = (v - m).msb := by
  simp [State.compare, State.setZN, BitVec.msb_eq_getLsbD_last]

/-- A comparison fetches M and compares its register with it. -/
theorem operation_comparison {i : Instr} {r : Reg} {returns : Bool} (h : (i.mnemonic, r, returns) ∈ comparisons)
    (o : Operand) (s : State) : i.operation o s =
      ((s.fetchOperand o).2.compare ((s.fetchOperand o).2.reg r) (s.fetchOperand o).1, returns) := by
  simp only [comparisons, List.mem_cons, Prod.mk.injEq, List.not_mem_nil, or_false] at h
  obtain ⟨hm, rfl, rfl⟩ | ⟨hm, rfl, rfl⟩ | ⟨hm, rfl, rfl⟩ := h <;> simp only [Instr.operation, hm] <;> rfl

theorem exec_comparison {i : Instr} {r : Reg} {returns : Bool} (h : (i.mnemonic, r, returns) ∈ comparisons)
    (s : State) : exec i s = .next { (i.fetched s).compare (s.reg r) (i.operand.value s) with
      cycles := cyclesWith i returns s } := by
  obtain ⟨hbrk, -⟩ := comparisons_writes _ h
  rw [exec_of_fetching (g := fun s m => s.compare (s.reg r) m) hbrk (operation_comparison h) (fun _ _ => rfl),
    Instr.fetched_reg]

/-- Settles O23: the run is `exec_comparison`, its flags those of `State.compare`. -/
theorem comparesAreUnsigned : Obligations.ComparesAreUnsigned := by
  refine ⟨hasForms_of_cells (by decide) (by decide), hasForms_of_cells (by decide) (by decide),
    hasForms_of_cells (by decide) (by decide), fun i s r returns h => ?_⟩
  obtain ⟨-, hregs, hflags, hmem⟩ := comparisons_writes _ h
  have hexec := exec_comparison h s
  have hframe := exec_frame_of_not_writer hexec (hregs _) hflags hmem
  refine ⟨_, hexec, ?_, ?_, ?_, by simp, rfl, by simp, hframe⟩ <;> rw [State.flag_withCycles]
  · exact State.flag_compare_c _ _ _
  · exact State.flag_compare_z _ _ _
  · exact State.flag_compare_n _ _ _

end Sys2Proof.Machine
end

section
/-! Increment and decrement, of memory and of the index registers (spec 42_arithmetic_logic.md R199-R204). -/

namespace Sys2Proof.Machine

/-! ## The wrapped sum -/

theorem byte_add_one_eq (b : Byte) : b + 1 = BitVec.ofNat 8 (b.toNat + 1) := by bv_omega

theorem byte_sub_one_eq (b : Byte) : b - 1 = BitVec.ofNat 8 (b.toNat + 255) := by bv_omega

/-! ## INC and DEC -/

/-- The mnemonics that step a byte of memory, each with what it adds. -/
def memorySteps : List (Mnemonic × Nat) := [(.inc, 1), (.dec, 255)]

/-- What such a mnemonic may write, memory apart; BRK is none of them. -/
theorem memorySteps_writes : ∀ p ∈ memorySteps, p.1 ≠ .brk ∧ (∀ implied, p.1.regsWritten implied ⊆ [])
    ∧ p.1.flagsWritten ⊆ [.z, .n] := by decide

/-- INC and DEC fetch M, write the stepped byte to the effective address, set Z and N from it and return 0. -/
theorem operation_memoryStep {i : Instr} {k : Nat} (h : (i.mnemonic, k) ∈ memorySteps) (o : Operand) (s : State) :
    i.operation o s =
      (((s.fetchOperand o).2.memWrite (s.fetchOperand o).2.addrAbs
        (BitVec.ofNat 8 ((s.fetchOperand o).1.toNat + k))).setZN
          (BitVec.ofNat 8 ((s.fetchOperand o).1.toNat + k)), false) := by
  simp only [memorySteps, List.mem_cons, Prod.mk.injEq, List.not_mem_nil, or_false] at h
  obtain ⟨hm, rfl⟩ | ⟨hm, rfl⟩ := h
  · rw [← byte_add_one_eq]
    simp only [Instr.operation, hm]
    rfl
  · rw [← byte_sub_one_eq]
    simp only [Instr.operation, hm]
    rfl

theorem exec_memoryStep {i : Instr} {k : Nat} (h : (i.mnemonic, k) ∈ memorySteps) (s : State) :
    exec i s = .next { ((i.fetched s).memWrite (i.operand.address s)
      (BitVec.ofNat 8 ((i.operand.value s).toNat + k))).setZN (BitVec.ofNat 8 ((i.operand.value s).toNat + k)) with
        cycles := cyclesWith i false s } := by
  obtain ⟨hbrk, -⟩ := memorySteps_writes _ h
  rw [exec_of_fetching (g := fun s m => (s.memWrite s.addrAbs (BitVec.ofNat 8 (m.toNat + k))).setZN
    (BitVec.ofNat 8 (m.toNat + k))) hbrk (operation_memoryStep h) (fun _ _ => rfl), Instr.fetched_addrAbs]

theorem devicesAfterFetch_plain {s : State} (h : s.plain = true) (o : Operand) : devicesAfterFetch o s = s.devices := by
  have hresolve := o.resolve_plain h
  have hplain : (o.resolve s).1.plain = true := by rwa [State.plain, hresolve]
  exact (State.fetchOperand_plain o hplain).trans hresolve

/-- Settles O24: the run is `exec_memoryStep`; on plain memory its reads change nothing (`devicesAfterFetch_plain`),
so its one write is all that memory sees. -/
theorem incDecUpdateMemory : Obligations.IncDecUpdateMemory := by
  refine ⟨hasForms_of_cells (by decide) (by decide), hasForms_of_cells (by decide) (by decide), fun i s k hk => ?_⟩
  have h : (i.mnemonic, k) ∈ memorySteps := by simpa [memorySteps] using hk
  obtain ⟨-, hregs, hflags⟩ := memorySteps_writes _ h
  have hexec := exec_memoryStep h s
  refine ⟨_, hexec, ⟨rfl, State.setZN_znFrom _ _⟩, by simp, rfl,
    exec_frame hexec (hregs _) hflags fun hplain hcanonical => ?_⟩
  apply bytesKept_of_write (v := BitVec.ofNat 8 ((i.operand.value s).toNat + k)) hplain hcanonical
  rw [← devicesAfterFetch_plain hplain i.operand]
  rfl

/-! ## INX, INY, DEX and DEY -/

/-- The mnemonics that step an index register, each with its register and what it adds. -/
def indexSteps : List (Mnemonic × Reg × Nat) := [(.inx, .x, 1), (.iny, .y, 1), (.dex, .x, 255), (.dey, .y, 255)]

/-- What such a mnemonic may write; BRK is none of them. -/
theorem indexSteps_writes : ∀ p ∈ indexSteps, p.1 ≠ .brk ∧ (∀ implied, p.1.regsWritten implied ⊆ [p.2.1])
    ∧ p.1.flagsWritten ⊆ [.z, .n] ∧ p.1 ∉ memoryWriters ++ shiftMnemonics := by decide

theorem indexSteps_operand : ∀ p ∈ indexSteps, p.1.soleForm.map Instr.operand = some .imp := by decide

/-- An index step writes the stepped byte to its register, sets Z and N from it and returns 0. -/
theorem operation_indexStep {i : Instr} {r : Reg} {k : Nat} (h : (i.mnemonic, r, k) ∈ indexSteps) (o : Operand)
    (s : State) : i.operation o s =
      ((s.setReg r (BitVec.ofNat 8 ((s.reg r).toNat + k))).setZN (BitVec.ofNat 8 ((s.reg r).toNat + k)), false) := by
  simp only [indexSteps, List.mem_cons, Prod.mk.injEq, List.not_mem_nil, or_false] at h
  obtain ⟨hm, rfl, rfl⟩ | ⟨hm, rfl, rfl⟩ | ⟨hm, rfl, rfl⟩ | ⟨hm, rfl, rfl⟩ := h <;>
    simp only [Instr.operation, hm, ← byte_add_one_eq, ← byte_sub_one_eq] <;> rfl

theorem exec_indexStep {i : Instr} {r : Reg} {k : Nat} (h : (i.mnemonic, r, k) ∈ indexSteps) (s : State) :
    exec i s = .next { ((i.resolved s).setReg r (BitVec.ofNat 8 ((s.reg r).toNat + k))).setZN
      (BitVec.ofNat 8 ((s.reg r).toNat + k)) with cycles := cyclesWith i false s } := by
  obtain ⟨hbrk, -⟩ := indexSteps_writes _ h
  rw [exec_eq_of_operation hbrk (operation_indexStep h _ _) (by simp), Instr.resolved_reg]

/-- Settles O25: the run is `exec_indexStep`, the frame what an index step's mnemonic may write. -/
theorem indexStepsWrap : Obligations.IndexStepsWrap := by
  refine ⟨hasForms_of_soleForm (i := .inx) rfl (by decide), hasForms_of_soleForm (i := .iny) rfl (by decide),
    hasForms_of_soleForm (i := .dex) rfl (by decide), hasForms_of_soleForm (i := .dey) rfl (by decide),
    fun i s r k h => ?_⟩
  obtain ⟨hbrk, hregs, hflags, hmem⟩ := indexSteps_writes _ h
  have hdevices := Instr.resolved_devices_of_imp hbrk (Instr.operand_of_soleForm (indexSteps_operand _ h)) s
  have hexec := exec_indexStep h s
  have hreg := (i.resolved s).reg_setZN_setReg r (BitVec.ofNat 8 ((s.reg r).toNat + k))
  exact ⟨_, hexec, hreg, State.setZN_znFrom _ _, by simp, rfl, by simpa using hdevices,
    exec_frame_of_not_writer hexec (hregs _) hflags hmem⟩

end Sys2Proof.Machine
end

section
/-! Shifts and rotates: ASL, LSR, ROL and ROR (spec 43_shift_rotate.md R220-R224). -/

namespace Sys2Proof.Machine

/-! ## Result and carry as numbers -/

/-- The spec's result and new carry of each mnemonic, from M and the old carry (R221-R224). -/
def shiftNumbers (m : Byte) (c : Bool) : List (Mnemonic × Nat × Nat) :=
  [(.asl, m.toNat * 2 % 256, m.toNat / 128), (.lsr, m.toNat / 2, m.toNat % 2),
    (.rol, (m.toNat * 2 + bit c) % 256, m.toNat / 128), (.ror, bit c * 128 + m.toNat / 2, m.toNat % 2)]

/-- An outcome given as the spec gives it: the result byte's number, and the carry as 0 or 1. -/
def Shifted.ofNumbers (r carry : Nat) : Shifted := { result := BitVec.ofNat 8 r, carry := decide (carry = 1) }

/-- The shifts and rotates, each with what it makes of M and the old carry. -/
def shifts : List (Mnemonic × (Byte → Bool → Shifted)) :=
  [(.asl, shiftAsl), (.lsr, shiftLsr), (.rol, shiftRol), (.ror, shiftRor)]

theorem bit_lt_two (c : Bool) : bit c < 2 := by cases c <;> decide

theorem byte_getLsbD_seven (m : Byte) : m.getLsbD 7 = decide (m.toNat / 128 = 1) := by
  have hm := m.isLt
  rw [← BitVec.testBit_toNat, Nat.testBit_eq_decide_div_mod_eq, Nat.mod_eq_of_lt (by omega)]

theorem byte_getLsbD_zero (m : Byte) : m.getLsbD 0 = decide (m.toNat % 2 = 1) := by
  rw [← BitVec.testBit_toNat, Nat.testBit_zero]

theorem byte_shiftLeft_one (m : Byte) : m <<< 1 = BitVec.ofNat 8 (m.toNat * 2 % 256) := by bv_omega

theorem byte_shiftRight_one (m : Byte) : m >>> 1 = BitVec.ofNat 8 (m.toNat / 2) := by bv_omega

/-- The old carry falls into bit 0, which the left shift leaves clear. -/
theorem byte_rotateLeft_one (m : Byte) (c : Bool) :
    m <<< 1 ||| BitVec.ofNat 8 (bit c) = BitVec.ofNat 8 ((m.toNat * 2 + bit c) % 256) := by
  have hm := m.isLt
  have hc := bit_lt_two c
  have hshift : m.toNat <<< 1 % 2 ^ 8 = (m.toNat % 128) <<< 1 := by omega
  apply BitVec.eq_of_toNat_eq
  rw [BitVec.toNat_or, BitVec.toNat_shiftLeft, BitVec.toNat_ofNat, BitVec.toNat_ofNat, hshift,
    Nat.mod_eq_of_lt (by omega : bit c < 2 ^ 8), ← Nat.shiftLeft_add_eq_or_of_lt hc]
  omega

/-- The old carry falls into bit 7, which the right shift leaves clear. -/
theorem byte_rotateRight_one (m : Byte) (c : Bool) :
    BitVec.ofNat 8 (bit c) <<< 7 ||| m >>> 1 = BitVec.ofNat 8 (bit c * 128 + m.toNat / 2) := by
  have hm := m.isLt
  have hc := bit_lt_two c
  have hhalf : m.toNat >>> 1 < 2 ^ 7 := by omega
  have hshift : bit c <<< 7 % 2 ^ 8 = bit c <<< 7 := by omega
  apply BitVec.eq_of_toNat_eq
  rw [BitVec.toNat_or, BitVec.toNat_shiftLeft, BitVec.toNat_ushiftRight, BitVec.toNat_ofNat, BitVec.toNat_ofNat,
    Nat.mod_eq_of_lt (by omega : bit c < 2 ^ 8), hshift, ← Nat.shiftLeft_add_eq_or_of_lt hhalf]
  omega

/-- The spec's numbers are those of the mnemonic's shift. -/
theorem exists_shift_of_numbers {mn : Mnemonic} {r carry : Nat} {m : Byte} {c : Bool}
    (h : (mn, r, carry) ∈ shiftNumbers m c) :
    ∃ f, (mn, f) ∈ shifts ∧ f m c = Shifted.ofNumbers r carry := by
  simp only [shiftNumbers, List.mem_cons, Prod.mk.injEq, List.not_mem_nil, or_false] at h
  obtain ⟨rfl, rfl, rfl⟩ | ⟨rfl, rfl, rfl⟩ | ⟨rfl, rfl, rfl⟩ | ⟨rfl, rfl, rfl⟩ := h
  · exact ⟨shiftAsl, by simp [shifts], by rw [shiftAsl, byte_shiftLeft_one, byte_getLsbD_seven, Shifted.ofNumbers]⟩
  · exact ⟨shiftLsr, by simp [shifts], by rw [shiftLsr, byte_shiftRight_one, byte_getLsbD_zero, Shifted.ofNumbers]⟩
  · exact ⟨shiftRol, by simp [shifts],
      by rw [shiftRol, byte_rotateLeft_one, byte_getLsbD_seven, Shifted.ofNumbers]⟩
  · exact ⟨shiftRor, by simp [shifts],
      by rw [shiftRor, byte_rotateRight_one, byte_getLsbD_zero, Shifted.ofNumbers]⟩

/-! ## The write-back -/

theorem State.writeBack_imp (s : State) (r : Byte) : s.writeBack .imp r = { s with a := r } := rfl

theorem State.writeBack_of_ne_imp {o : Operand} (h : o ≠ .imp) (s : State) (r : Byte) :
    s.writeBack o r = s.memWrite s.addrAbs r := by
  cases o
  case imp => exact absurd rfl h
  all_goals rfl

@[simp] theorem State.writeBack_pc (s : State) (o : Operand) (r : Byte) : (s.writeBack o r).pc = s.pc := by
  cases o <;> rfl

/-! ## What a shift leaves -/

/-- The state after a shift's outcome is in C, Z and N and written back. -/
def State.putShifted (s : State) (o : Operand) (sh : Shifted) : State :=
  ((s.setFlag .c sh.carry).setZN sh.result).writeBack o sh.result

@[simp] theorem State.putShifted_pc (s : State) (o : Operand) (sh : Shifted) : (s.putShifted o sh).pc = s.pc := by
  simp [State.putShifted]

@[simp] theorem State.putShifted_cycles (s : State) (o : Operand) (sh : Shifted) :
    (s.putShifted o sh).cycles = s.cycles := by
  simp [State.putShifted]

theorem State.putShifted_imp_a (s : State) (sh : Shifted) : (s.putShifted .imp sh).a = sh.result := rfl

theorem State.putShifted_imp_devices (s : State) (sh : Shifted) : (s.putShifted .imp sh).devices = s.devices := rfl

theorem State.putShifted_devices {o : Operand} (h : o ≠ .imp) (s : State) (sh : Shifted) :
    (s.putShifted o sh).devices = Bus.write s.devices s.addrAbs sh.result := by
  rw [State.putShifted, State.writeBack_of_ne_imp h]
  rfl

/-- The Implied routine and its fetch() make no bus access (R140). -/
theorem devicesAfterFetch_imp (s : State) : devicesAfterFetch .imp s = s.devices := rfl

/-- The write-back touches no flag. -/
theorem State.flag_putShifted (s : State) (o : Operand) (sh : Shifted) (f : Flag) :
    (s.putShifted o sh).flag f = ((s.setFlag .c sh.carry).setZN sh.result).flag f :=
  State.flag_congr (State.writeBack_p _ _ _) f

theorem State.flag_putShifted_c (s : State) (o : Operand) (sh : Shifted) :
    (s.putShifted o sh).flag .c = sh.carry := by
  rw [State.flag_putShifted, State.flag_setZN_other (by decide), State.flag_setFlag, if_pos rfl]

theorem State.putShifted_znFrom (s : State) (o : Operand) (sh : Shifted) : ZNFrom sh.result (s.putShifted o sh) := by
  rw [ZNFrom, State.flag_putShifted, State.flag_putShifted]
  exact State.setZN_znFrom _ _

/-! ## The run -/

/-- What a shift's mnemonic may write, memory apart; BRK is none of them. -/
theorem shifts_writes : ∀ p ∈ shifts, p.1 ≠ .brk ∧ p.1.regsWritten true ⊆ [.a] ∧ p.1.regsWritten false ⊆ []
    ∧ p.1.flagsWritten ⊆ [.c, .z, .n] := by decide

theorem operation_shift {i : Instr} {f : Byte → Bool → Shifted} (h : (i.mnemonic, f) ∈ shifts) :
    i.operation = shiftOp f := by
  simp only [shifts, List.mem_cons, Prod.mk.injEq, List.not_mem_nil, or_false] at h
  obtain ⟨hm, rfl⟩ | ⟨hm, rfl⟩ | ⟨hm, rfl⟩ | ⟨hm, rfl⟩ := h <;> simp only [Instr.operation, hm] <;> rfl

/-- A shift fetches M, takes the carry as fetch() leaves it, puts its outcome and returns 0. -/
theorem shiftOp_eq (f : Byte → Bool → Shifted) (o : Operand) (s : State) :
    shiftOp f o s =
      ((s.fetchOperand o).2.putShifted o (f (s.fetchOperand o).1 ((s.fetchOperand o).2.flag .c)), false) := rfl

theorem exec_shift {i : Instr} {f : Byte → Bool → Shifted} (h : (i.mnemonic, f) ∈ shifts) (s : State) :
    exec i s = .next { (i.fetched s).putShifted i.operand (f (i.operand.value s) (s.flag .c)) with
      cycles := cyclesWith i false s } := by
  obtain ⟨hbrk, -⟩ := shifts_writes _ h
  apply exec_eq_of_operation hbrk
  · rw [operation_shift h, shiftOp_eq, Instr.fetchOperand_resolved hbrk, Instr.fetched_flag]
  · simp

/-- Settles O26: the run is `exec_shift`, whose outcome `exists_shift_of_numbers` reads as numbers; the write-back
tells Implied mode, which makes no bus access, from the others, which make one write after fetch()'s read. -/
theorem shiftsWriteBack : Obligations.ShiftsWriteBack := by
  refine ⟨hasForms_of_cells (by decide) (by decide), hasForms_of_cells (by decide) (by decide),
    hasForms_of_cells (by decide) (by decide), hasForms_of_cells (by decide) (by decide), fun i s r carry hr => ?_⟩
  obtain ⟨f, h, hf⟩ := exists_shift_of_numbers (m := i.operand.value s) (c := s.flag .c) hr
  obtain ⟨-, himplied, hmemory, hflags⟩ := shifts_writes _ h
  have hexec := exec_shift h s
  rw [hf] at hexec
  refine ⟨_, hexec, ?carry, State.putShifted_znFrom _ _ _, by simp, rfl, ?writeBack⟩
  case carry =>
    rw [State.flag_withCycles, State.flag_putShifted_c]
    exact decide_eq_true_iff
  case writeBack =>
    split
    next himp =>
      have hdevices : ((i.fetched s).putShifted i.operand (.ofNumbers r carry)).devices = s.devices := by
        rw [himp, State.putShifted_imp_devices, Instr.fetched_devices, himp, devicesAfterFetch_imp]
      exact ⟨by rw [himp]; rfl, by rw [himp]; rfl, hdevices,
        exec_frame hexec (by simpa [himp] using himplied) hflags fun _ _ => bytesKept_of_devices hdevices⟩
    next hmode =>
      have hdevices := State.putShifted_devices hmode (i.fetched s) (.ofNumbers r carry)
      rw [Instr.fetched_devices, Instr.fetched_addrAbs] at hdevices
      refine ⟨hdevices, exec_frame hexec (by simpa [hmode] using hmemory) hflags fun hplain hcanonical => ?_⟩
      rw [devicesAfterFetch_plain hplain] at hdevices
      exact bytesKept_of_write hplain hcanonical hdevices

end Sys2Proof.Machine
end

section
/-! The eight branches (spec 44_control_flow.md R230-R238). -/

namespace Sys2Proof.Machine

/-! ## The common branch rule -/

@[simp] theorem State.branch_addrRel (s : State) (cond : Bool) : (s.branch cond).addrRel = s.addrRel := by
  cases cond <;> rfl

theorem State.branch_false (s : State) : s.branch false = s := rfl

theorem one_add_bit_not (c : Prop) [Decidable c] : 1 + bit (decide (¬ c)) = if c then 1 else 2 := by
  by_cases h : c <;> simp [h, bit]

/-- A taken branch goes to its target, one cycle later on the same page and two on another (R230). -/
theorem State.branch_true (s : State) :
    s.branch true = { s with
      pc := s.pc + s.addrRel
      addrAbs := s.pc + s.addrRel
      cycles := s.cycles + if (s.pc + s.addrRel).toNat / 256 = s.pc.toNat / 256 then 1 else 2 } := by
  simp only [State.branch, if_true, ne_eq, hi8_eq_iff, Nat.add_assoc, one_add_bit_not]

/-! ## The run -/

/-- The branches with one displacement, each with its flag and the value it is taken on (R231-R238). -/
def branches (rel : Byte) : List (Instr × Flag × Bool) :=
  [(.bcc rel, .c, false), (.bcs rel, .c, true), (.beq rel, .z, true), (.bmi rel, .n, true), (.bne rel, .z, false),
    (.bpl rel, .n, false), (.bvc rel, .v, false), (.bvs rel, .v, true)]

/-- What a branch's mnemonic may write: nothing; BRK is none of them. -/
theorem branchMnemonics_writes : ∀ m ∈ branchMnemonics, m ≠ .brk ∧ (∀ implied, m.regsWritten implied ⊆ [])
    ∧ m.flagsWritten ⊆ [] ∧ m ∉ memoryWriters ++ shiftMnemonics := by decide

/-- A branch is Relative and tests its flag for its value. -/
theorem branches_spec {i : Instr} {rel : Byte} {f : Flag} {v : Bool} (h : (i, f, v) ∈ branches rel) :
    i.mnemonic ∈ branchMnemonics ∧ i.operand = .rel rel
      ∧ i.operation = fun _ s => (s.branch (s.flag f == v), false) := by
  simp only [branches, List.mem_cons, Prod.mk.injEq, List.not_mem_nil, or_false] at h
  obtain ⟨rfl, rfl, rfl⟩ | ⟨rfl, rfl, rfl⟩ | ⟨rfl, rfl, rfl⟩ | ⟨rfl, rfl, rfl⟩ | ⟨rfl, rfl, rfl⟩ | ⟨rfl, rfl, rfl⟩
    | ⟨rfl, rfl, rfl⟩ | ⟨rfl, rfl, rfl⟩ := h <;>
    exact ⟨by simp [Instr.mnemonic, branchMnemonics], rfl, by simp only [beq_true, beq_false]; rfl⟩

/-- A branch runs the common rule with its displacement in `addr_rel` and its base count set. -/
theorem exec_branch {i : Instr} {rel : Byte} {f : Flag} {v : Bool} (h : (i, f, v) ∈ branches rel) (s : State) :
    exec i s = .next
      (State.branch { s with addrRel := rel.signExtend 16, cycles := s.baseCycles i.opcode } (s.flag f == v)) := by
  obtain ⟨hm, hoperand, hop⟩ := branches_spec h
  obtain ⟨hbrk, -⟩ := branchMnemonics_writes _ hm
  have hresolved : i.resolved s = { s with addrRel := rel.signExtend 16, cycles := s.baseCycles i.opcode } := by
    rw [Instr.resolved_eq hbrk, hoperand, ← sext16_eq]
    rfl
  rw [exec_eq_of_returns_zero (by rw [hop]), hop, hresolved]
  rfl

/-- Settles O27: the run is `exec_branch`, whose two outcomes are `State.branch_true` and `State.branch_false`. -/
theorem branchesTestTheirFlag : Obligations.BranchesTestTheirFlag := by
  refine ⟨hasForms_of_cells (by decide) (by decide), hasForms_of_cells (by decide) (by decide),
    hasForms_of_cells (by decide) (by decide), hasForms_of_cells (by decide) (by decide),
    hasForms_of_cells (by decide) (by decide), hasForms_of_cells (by decide) (by decide),
    hasForms_of_cells (by decide) (by decide), hasForms_of_cells (by decide) (by decide), fun i s rel f v h => ?_⟩
  obtain ⟨hm, -⟩ := branches_spec h
  obtain ⟨-, hregs, hflags, hmem⟩ := branchMnemonics_writes _ hm
  have hexec := exec_branch h s
  have hframe := exec_frame_of_not_writer hexec (hregs _) hflags hmem
  have hbase (hp : s.params = defaultParams) : s.baseCycles i.opcode = 2 :=
    (State.baseCycles_default hp _).trans (baseCycles_of_branch hm)
  refine ⟨_, hexec, ?_, hbase, ?_⟩
  · split
    next htaken =>
      rw [beq_iff_eq.2 htaken, State.branch_true]
      exact ⟨rfl, rfl, rfl⟩
    next hkept =>
      rw [beq_false_of_ne hkept, State.branch_false]
      exact ⟨rfl, rfl⟩
  · exact ⟨State.branch_addrRel _ _, State.branch_p _ _, State.branch_devices _ _, hframe⟩

end Sys2Proof.Machine
end

section
/-! Jumps and subroutines: JMP, JSR and RTS (spec 44_control_flow.md R239-R241). -/

namespace Sys2Proof.Machine

/-! ## JMP -/

theorem exec_jmpAbs (addr : Word) (s : State) :
    exec (.jmpAbs addr) s = .next { s with pc := addr, addrAbs := addr, cycles := s.baseCycles 0x4C } := rfl

theorem exec_jmpInd (ptr : Word) (s : State) :
    exec (.jmpInd ptr) s = .next { ((Operand.ind ptr).resolve s).1 with
      pc := (Operand.ind ptr).address s, cycles := s.baseCycles 0x6C } := rfl

/-- JMP writes PC alone, whatever its form. -/
theorem exec_jmp_frame {i : Instr} {s t : State} (hm : i.mnemonic = .jmp) (h : exec i s = .next t) :
    Frame [] [] [] s t :=
  exec_frame_of_not_writer h (by rw [hm]; exact List.Subset.refl _) (by rw [hm]; decide) (by rw [hm]; decide)

/-- Settles O28: the runs are `exec_jmpAbs` and `exec_jmpInd`; on plain memory the pointer is the two bytes the host
sees (`State.readPointer_plain`), the high one at the address of `indirectHighAddr_eq_ofNat`. -/
theorem jmpLoadsPc : Obligations.JmpLoadsPc := by
  refine ⟨hasForms_of_cells (by decide) (by decide), fun addr s => ?_, fun ptr s => ?_⟩
  · exact ⟨_, exec_jmpAbs addr s, rfl, rfl, rfl, rfl, exec_jmp_frame rfl (exec_jmpAbs addr s)⟩
  · refine ⟨_, exec_jmpInd ptr s, rfl, fun hplain => ?_, rfl, rfl, rfl,
      exec_jmp_frame rfl (exec_jmpInd ptr s)⟩
    rw [Operand.address_ind, State.readPointer_plain hplain, indirectHighAddr_eq_ofNat, apply_ite (BitVec.ofNat 16)]
    rfl

/-! ## The bytes several writes keep -/

theorem BytesKept.trans {as bs : List Word} {s t u : State} (h : BytesKept as s t) (h' : BytesKept bs t u) :
    BytesKept (as ++ bs) s u := by
  intro a ha
  obtain ⟨has, hbs⟩ := not_or.1 (mt List.mem_append.2 ha)
  exact (h' a hbs).trans (h a has)

theorem State.pushWord_bytesKept {s : State} (hplain : s.plain = true) (hcanonical : s.canonical = true) (w : Word) :
    BytesKept [stackAddr s.sp, stackAddr (s.sp - 1)] s (s.pushWord w) := by
  have high : BytesKept [stackAddr s.sp] s (s.push (hi8 w)) := bytesKept_of_write hplain hcanonical rfl
  have low : BytesKept [stackAddr (s.sp - 1)] (s.push (hi8 w)) (s.pushWord w) :=
    bytesKept_of_write ((State.memWrite_plain ..).trans hplain) (State.memWrite_canonical hcanonical ..) rfl
  exact high.trans low

/-! ## JSR and RTS -/

theorem exec_jsr (addr : Word) (s : State) :
    exec (.jsr addr) s = .next { s.pushWord (s.pc - 1) with
      pc := addr, addrAbs := addr, cycles := s.baseCycles 0x20 } := rfl

theorem exec_rts (s : State) :
    exec .rts s = .next { s.pullWord.2 with
      pc := s.pullWord.1 + 1, fetched := s.a, cycles := s.baseCycles 0x60 } := rfl

/-- Settles O29: the run is `exec_jsr`, its two pushes `State.pushWord_eq`, the bytes they keep
`State.pushWord_bytesKept`. -/
theorem jsrPushesReturnAddress : Obligations.JsrPushesReturnAddress := by
  refine ⟨hasForms_of_cells (by decide) (by decide), fun addr s => ?_⟩
  have hpush := s.pushWord_eq (s.pc - 1)
  refine ⟨_, exec_jsr addr s, rfl, by rw [hpush], by rw [hpush]; rfl, rfl, rfl,
    exec_frame (exec_jsr addr s) (List.Subset.refl _) (List.Subset.refl _) fun hplain hcanonical => ?_⟩
  exact State.pushWord_bytesKept hplain hcanonical (s.pc - 1)

/-- Settles O30: the run is `exec_rts`, its two pulls `State.pullWord_eq`. -/
theorem rtsReturnsPastPulledAddress : Obligations.RtsReturnsPastPulledAddress := by
  refine ⟨hasForms_of_soleForm (i := .rts) rfl (by decide), fun s => ?_⟩
  have hpull := s.pullWord_eq
  refine ⟨_, exec_rts s, by rw [hpull], rfl, rfl, ?_,
    exec_frame_of_not_writer (exec_rts s) (by decide) (by decide) (by decide)⟩
  rw [hpull]
  exact ⟨rfl, rfl⟩

/-! ## The stack discipline -/

theorem State.pullWord_eq_of_plain {s : State} (h : s.plain = true) :
    s.pullWord = (word (s.peek (stackAddr (s.sp + 2))) (s.peek (stackAddr (s.sp + 1))), { s with sp := s.sp + 2 }) := by
  simp only [State.pullWord_eq, State.busRead_plain h]

/-- On RAM a pushed word stands on the stack, its high byte above its low one (20_memory.md R74). -/
theorem State.onRam_peek_pushWord {s : State} {cells : Memory} (h : s.onRam cells) (w : Word) :
    (s.pushWord w).peek (stackAddr s.sp) = hi8 w ∧ (s.pushWord w).peek (stackAddr (s.sp - 1)) = lo8 w := by
  have high := State.onRam_memWrite h (stackAddr s.sp) (hi8 w)
  have hdevices : (s.pushWord w).devices =
    ((s.memWrite (stackAddr s.sp) (hi8 w)).memWrite (stackAddr (s.sp - 1)) (lo8 w)).devices := rfl
  have hne : s.sp ≠ s.sp - 1 := by bv_omega
  simp only [State.peek_congr hdevices, State.onRam_peek_memWrite high, State.onRam_peek_memWrite h, stackAddr_inj,
    hne, if_true, if_false, and_self]

/-- On RAM a word pulled with the stack its push left is that word, and S is the one before the push. -/
theorem State.onRam_pullWord_pushWord {s t : State} {cells : Memory} (h : s.onRam cells) {w : Word}
    (hsp : t.sp = (s.pushWord w).sp) (hdevices : t.devices = (s.pushWord w).devices) :
    t.pullWord = (w, { t with sp := s.sp }) := by
  obtain ⟨hhigh, hlow⟩ := State.onRam_peek_pushWord h w
  have hplain : t.plain = true := by
    rw [State.plain, hdevices, State.pushWord_eq, Bus.write_plain, Bus.write_plain]
    exact State.onRam_plain h
  rw [State.pushWord_eq] at hsp
  have hsp1 : t.sp + 1 = s.sp - 1 := by bv_omega
  have hsp2 : t.sp + 2 = s.sp := by bv_omega
  rw [State.pullWord_eq_of_plain hplain, hsp1, hsp2, State.peek_congr hdevices, State.peek_congr hdevices, hhigh, hlow,
    word_hi8_lo8]

/-- Settles O31: JSR pushes PC - 1 (`exec_jsr`), and RTS returns past the word it pulls (`exec_rts`), which is the one
pushed (`State.onRam_pullWord_pushWord`). -/
theorem rtsUndoesJsr : Obligations.RtsUndoesJsr := by
  intro s cells addr hram
  refine ⟨_, exec_jsr addr s, fun t' hsp hdevices => ⟨_, exec_rts t', ?_⟩⟩
  rw [State.onRam_pullWord_pushWord hram hsp hdevices]
  exact ⟨BitVec.sub_add_cancel s.pc 1, rfl, hdevices⟩

end Sys2Proof.Machine
end

section
/-! D is inert (spec 45_stack_flags_system.md R261, 10_state.md R29): each operation routine but those that stack P
or write D commutes with writing D. -/

namespace Sys2Proof

open Sys2Proof.Machine

/-- The addressing routine never looks at P. -/
theorem Operand.resolve_setFlag (o : Operand) (s : State) (g : Flag) (v : Bool) :
    o.resolve (s.setFlag g v) = ((o.resolve s).1.setFlag g v, (o.resolve s).2) := by
  cases o <;> rfl

end Sys2Proof

namespace Sys2Proof.Machine

/-! ## Writing two flags -/

theorem putFlag_comm {f g : Flag} (h : f ≠ g) (p : Byte) (v w : Bool) :
    putFlag (putFlag p f v) g w = putFlag (putFlag p g w) f v := by
  apply byte_ext_of_flags
  intro k
  simp only [getFlag_putFlag]
  by_cases hk : k = g
  · rw [if_pos hk, if_neg (hk ▸ h.symm), if_pos hk]
  · simp only [if_neg hk]

theorem putFlag_putFlag_same (p : Byte) (f : Flag) (v w : Bool) : putFlag (putFlag p f v) f w = putFlag p f w := by
  apply byte_ext_of_flags
  intro k
  simp only [getFlag_putFlag]
  split <;> rfl

theorem State.setFlag_comm {f g : Flag} (h : f ≠ g) (s : State) (v w : Bool) :
    (s.setFlag f v).setFlag g w = (s.setFlag g w).setFlag f v := by
  simp only [State.setFlag, putFlag_comm h]

theorem State.setFlag_setFlag_same (s : State) (f : Flag) (v w : Bool) :
    (s.setFlag f v).setFlag f w = s.setFlag f w := by
  simp only [State.setFlag, putFlag_putFlag_same]

/-! ## What the shared operations make of a written flag -/

/-- fetch() never looks at P. -/
theorem State.fetchOperand_setFlag (s : State) (o : Operand) (g : Flag) (v : Bool) :
    (s.setFlag g v).fetchOperand o = ((s.fetchOperand o).1, (s.fetchOperand o).2.setFlag g v) := by
  cases o <;> rfl

theorem State.setZN_setFlag {g : Flag} (h : g ∉ [Flag.z, .n]) (s : State) (v : Bool) (b : Byte) :
    (s.setFlag g v).setZN b = (s.setZN b).setFlag g v := by
  obtain ⟨hz, hn⟩ : g ≠ .z ∧ g ≠ .n := by simpa using h
  simp only [State.setZN, State.setFlag_comm hz, State.setFlag_comm hn]

theorem State.compare_setFlag {g : Flag} (h : g ∉ [Flag.c, .z, .n]) (s : State) (v : Bool) (r m : Byte) :
    (s.setFlag g v).compare r m = (s.compare r m).setFlag g v := by
  obtain ⟨hc, hzn⟩ : g ≠ .c ∧ g ∉ [Flag.z, .n] := by simpa using h
  simp only [State.compare, State.setFlag_comm hc, State.setZN_setFlag hzn]

theorem State.bitTest_setFlag {g : Flag} (h : g ∉ [Flag.z, .v, .n]) (s : State) (v : Bool) (m : Byte) :
    (s.setFlag g v).bitTest m = (s.bitTest m).setFlag g v := by
  obtain ⟨hz, hv, hn⟩ : g ≠ .z ∧ g ≠ .v ∧ g ≠ .n := by simpa using h
  simp only [State.bitTest, State.setFlag_comm hz, State.setFlag_comm hn, State.setFlag_comm hv, State.setFlag_a]
  rfl

/-- The addition reads C alone and writes C, Z, V and N alone (42_arithmetic_logic.md R190). -/
theorem State.addWithCarry_setFlag {g : Flag} (h : g ∉ [Flag.c, .z, .v, .n]) (s : State) (v : Bool) (m : Byte) :
    (s.setFlag g v).addWithCarry m = (s.addWithCarry m).setFlag g v := by
  obtain ⟨hc, hz, hv, hn⟩ : g ≠ .c ∧ g ≠ .z ∧ g ≠ .v ∧ g ≠ .n := by simpa using h
  simp only [State.addWithCarry, State.flag_setFlag_other (Ne.symm hc), State.setFlag_a]
  simp only [State.setFlag, putFlag_comm hc, putFlag_comm hz, putFlag_comm hv, putFlag_comm hn]

theorem State.branch_setFlag (s : State) (g : Flag) (v cond : Bool) :
    (s.setFlag g v).branch cond = (s.branch cond).setFlag g v := by
  cases cond <;> rfl

theorem State.writeBack_setFlag (s : State) (g : Flag) (v : Bool) (o : Operand) (r : Byte) :
    (s.setFlag g v).writeBack o r = (s.writeBack o r).setFlag g v := by
  cases o <;> rfl

theorem State.putShifted_setFlag {g : Flag} (h : g ∉ [Flag.c, .z, .n]) (s : State) (v : Bool) (o : Operand)
    (sh : Shifted) : (s.setFlag g v).putShifted o sh = (s.putShifted o sh).setFlag g v := by
  obtain ⟨hc, hzn⟩ : g ≠ .c ∧ g ∉ [Flag.z, .n] := by simpa using h
  simp only [State.putShifted, State.setFlag_comm hc, State.setZN_setFlag hzn, State.writeBack_setFlag]

/-! ## Operations that ignore a flag -/

/-- The operation does the same whatever the flag is, and leaves it: it commutes with writing the flag. -/
def Operation.Ignores (f : Operation) (g : Flag) : Prop :=
  ∀ (o : Operand) (s : State) (v : Bool), f o (s.setFlag g v) = ((f o s).1.setFlag g v, (f o s).2)

theorem shiftOp_ignores {g : Flag} (h : g ∉ [Flag.c, .z, .n]) (f : Byte → Bool → Shifted) :
    (shiftOp f).Ignores g := by
  intro o s v
  have hc : Flag.c ≠ g := by rintro rfl; exact h (by decide)
  simp only [shiftOp_eq, State.fetchOperand_setFlag, State.flag_setFlag_other hc, State.putShifted_setFlag h]

/-- A branch on another flag. -/
theorem branch_ignores {f g : Flag} (h : f ≠ g) (c : Bool → Bool) :
    Operation.Ignores (fun _ s => (s.branch (c (s.flag f)), false)) g := by
  intro o s v
  simp only [State.flag_setFlag_other h, State.branch_setFlag]

/-- Writing another flag. -/
theorem setFlag_ignores {f g : Flag} (h : g ≠ f) (w : Bool) :
    Operation.Ignores (fun _ s => (s.setFlag f w, false)) g := by
  intro o s v
  simp only [State.setFlag_comm h]

/-- The mnemonics that stack P, or write D. -/
def decimalMnemonics : List Mnemonic := [.php, .brk, .cld, .sed, .plp, .rti]

/-- Every routine that neither stacks P nor writes D ignores D: what reads or writes P in it is another flag. -/
theorem operation_ignores_d {i : Instr} (h : i.mnemonic ∉ decimalMnemonics) : i.operation.Ignores .d := by
  have zn := State.setZN_setFlag (g := .d) (by decide)
  unfold Instr.operation
  cases hm : i.mnemonic <;> rw [hm] at h
  case php | brk | cld | sed | plp | rti => exact absurd (by decide) h
  case adc | sbc =>
    intro o s v
    simp only [opAdc, opSbc, State.fetchOperand_setFlag, State.addWithCarry_setFlag (g := .d) (by decide)]
  case cmp | cpx | cpy =>
    intro o s v
    simp only [opCmp, opCpx, opCpy, State.fetchOperand_setFlag, State.compare_setFlag (g := .d) (by decide)]
    rfl
  case bit =>
    intro o s v
    simp only [opBit, State.fetchOperand_setFlag, State.bitTest_setFlag (g := .d) (by decide)]
  case lda | ldx | ldy | and | ora | eor | inc | dec =>
    intro o s v
    simp only [opLda, opLdx, opLdy, opAnd, opOra, opEor, opInc, opDec, State.fetchOperand_setFlag, ← zn]
    rfl
  case tax | tay | tsx | txa | tya | inx | iny | dex | dey | pla =>
    intro o s v
    simp only [opTax, opTay, opTsx, opTxa, opTya, opInx, opIny, opDex, opDey, opPla, ← zn]
    rfl
  case asl | lsr | rol | ror => exact shiftOp_ignores (by decide) _
  case bcc | bne | bpl | bvc => exact branch_ignores (by decide) (!·)
  case bcs | beq | bmi | bvs => exact branch_ignores (by decide) id
  case clc | cli | clv | sec | sei => exact setFlag_ignores (by decide) _
  case sta | stx | sty | txs | jmp | jsr | rts | pha | nop | xxx => exact fun _ _ _ => rfl

/-- An operation that ignores a flag makes an instruction that does. -/
theorem runOp_setFlag {f : Operation} {g : Flag} (h : f.Ignores g) (op : Byte) (o : Operand) (s : State) (v : Bool) :
    runOp op o f (s.setFlag g v) = (runOp op o f s).setFlag g v := by
  have hresolve : o.resolve { s.setFlag g v with cycles := (s.setFlag g v).baseCycles op } = _ :=
    Operand.resolve_setFlag o { s with cycles := s.baseCycles op } g v
  rw [runOp, hresolve]
  simp only [h o]
  rfl

/-- A flag instruction overwrites its flag. -/
theorem State.setFlag_afterFlagInstr (s : State) (i : Instr) (f : Flag) (v w : Bool) :
    (s.setFlag f v).afterFlagInstr i f w = s.afterFlagInstr i f w :=
  State.setFlag_setFlag_same { s with fetched := s.a, cycles := s.baseCycles i.opcode } f v w

/-- CLD, SED, PLP and RTI write D without reading it. -/
theorem exec_setFlag_d {i : Instr} (h : i.mnemonic ∈ [Mnemonic.cld, .sed, .plp, .rti]) (s : State) (v : Bool) :
    exec i (s.setFlag .d v) = exec i s := by
  simp only [List.mem_cons, List.not_mem_nil, or_false] at h
  obtain hm | hm | hm | hm := h
  · obtain rfl : i = .cld := Instr.eq_of_soleForm (by rw [hm]; rfl)
    exact congrArg Host.Outcome.next (s.setFlag_afterFlagInstr .cld .d v false)
  · obtain rfl : i = .sed := Instr.eq_of_soleForm (by rw [hm]; rfl)
    exact congrArg Host.Outcome.next (s.setFlag_afterFlagInstr .sed .d v true)
  · obtain rfl : i = .plp := Instr.eq_of_soleForm (by rw [hm]; rfl)
    rfl
  · obtain rfl : i = .rti := Instr.eq_of_soleForm (by rw [hm]; rfl)
    rfl

/-- Settles O20: the operation of every other instruction commutes with writing D (`operation_ignores_d`), and so does
its run (`runOp_setFlag`). -/
theorem decimalFlagIsInert : Obligations.DecimalFlagIsInert := by
  refine fun i s v => ⟨fun h => ?_, fun h => exec_setFlag_d h s v⟩
  have hexec := exec_eq_runOp i s
  have keepsD : ∀ m ∈ Mnemonic.all, m ∉ decimalMnemonics → Flag.d ∉ m.flagsWritten := by decide
  refine ⟨_, hexec, ?_, exec_flag hexec (keepsD _ (Mnemonic.mem_all _) h)⟩
  rw [exec_eq_runOp, runOp_setFlag (operation_ignores_d h), State.setFlag_params]

end Sys2Proof.Machine
end

section
/-! The stack instructions, NOP and the undocumented bytes (spec 45_stack_flags_system.md R250-R253, R262, R265). -/

namespace Sys2Proof.Machine

/-! ## PHA and PHP -/

/-- The instructions that push, each with the byte (R250, R251). -/
def pushes (s : State) : List (Instr × Byte) := [(.pha, s.a), (.php, s.p ||| 0x30)]

theorem exec_push {i : Instr} {s : State} {v : Byte} (h : (i, v) ∈ pushes s) :
    exec i s = .next { s.push v with fetched := s.a, cycles := s.baseCycles i.opcode } := by
  simp only [pushes, List.mem_cons, Prod.mk.injEq, List.not_mem_nil, or_false] at h
  obtain ⟨rfl, rfl⟩ | ⟨rfl, rfl⟩ := h <;> rfl

theorem pushes_writes {i : Instr} {s : State} {v : Byte} (h : (i, v) ∈ pushes s) :
    i.mnemonic.regsWritten (i.operand = .imp) ⊆ [.sp] ∧ i.mnemonic.flagsWritten ⊆ [] := by
  simp only [pushes, List.mem_cons, Prod.mk.injEq, List.not_mem_nil, or_false] at h
  obtain ⟨rfl, -⟩ | ⟨rfl, -⟩ := h <;> decide

/-- Settles O32: the run is `exec_push`, its one write that of `State.push`. -/
theorem pushesWriteStack : Obligations.PushesWriteStack := by
  refine ⟨hasForms_of_soleForm (i := .pha) rfl (by decide), hasForms_of_soleForm (i := .php) rfl (by decide),
    fun i s v h => ?_⟩
  obtain ⟨hregs, hflags⟩ := pushes_writes h
  refine ⟨_, exec_push h, rfl, rfl, rfl, rfl, rfl,
    exec_frame (exec_push h) hregs hflags fun hplain hcanonical => ?_⟩
  exact bytesKept_of_write hplain hcanonical rfl

/-! ## PLA and PLP -/

theorem exec_pla (s : State) :
    exec .pla s = .next { (s.pull.2.setReg .a s.pull.1).setZN s.pull.1 with
      fetched := s.a, cycles := s.baseCycles 0x68 } := rfl

theorem exec_plp (s : State) :
    exec .plp s = .next { s.pull.2 with
      p := s.pull.1 ||| 0x20, fetched := s.a, cycles := s.baseCycles 0x28 } := rfl

/-- Settles O33: the runs are `exec_pla` and `exec_plp`, their one read that of `State.pull`. -/
theorem pullsReadStack : Obligations.PullsReadStack := by
  refine ⟨hasForms_of_soleForm (i := .pla) rfl (by decide), hasForms_of_soleForm (i := .plp) rfl (by decide),
    fun s => ⟨⟨_, exec_pla s, rfl, State.setZN_znFrom _ _, rfl, rfl, rfl, rfl, ?_⟩,
      ⟨_, exec_plp s, rfl, rfl, rfl, rfl, rfl, ?_⟩⟩⟩
  · exact exec_frame_of_not_writer (exec_pla s) (by decide) (by decide) (by decide)
  · exact exec_frame_of_not_writer (exec_plp s) (by decide) (by decide) (by decide)

/-! ## NOP and the undocumented bytes -/

theorem exec_noOperation {i : Instr} (h : i.mnemonic = .nop ∨ i.mnemonic = .xxx) (s : State) :
    exec i s = .next { s with fetched := s.a, cycles := s.baseCycles i.opcode } := by
  obtain hm | hm := h
  · obtain rfl : i = .nop := Instr.eq_of_soleForm (by rw [hm]; rfl)
    rfl
  · rw [Instr.eq_xxx_of_mnemonic hm]
    rfl

/-- The bytes of the cycle table are the undocumented ones, in another order (30_encoding.md R102, R104). -/
theorem undocumentedBytes_perm : undocumentedBytes.Perm (undocumentedCycles.flatMap (·.2)) := by decide

theorem xxx_wellFormed_iff (op : Byte) :
    (Instr.xxx op).wellFormed = true ↔ ∃ row ∈ undocumentedCycles, op ∈ row.2 :=
  List.contains_iff_mem.trans (undocumentedBytes_perm.mem_iff.trans List.mem_flatMap)

theorem baseCycles_of_undocumented :
    ∀ row ∈ undocumentedCycles, ∀ op ∈ row.2, baseCycles op = row.1 :=
  have rows : undocumentedCycles.map (fun row => row.2.map baseCycles)
      = undocumentedCycles.map (fun row => row.2.map fun _ => row.1) := rfl
  fun row hrow => List.map_inj_left.1 (List.map_inj_left.1 rows row hrow)

/-- Settles O35: both runs are `exec_noOperation`, the counts those of the opcode map. -/
theorem noOperationsOnlyTakeCycles : Obligations.NoOperationsOnlyTakeCycles := by
  refine ⟨hasForms_of_soleForm (i := .nop) rfl (by decide), fun i s h => ?_, fun op o s => ?_⟩
  · refine ⟨_, exec_noOperation h s, rfl, fun hp => ?_⟩
    rw [State.baseCycles_default hp]
    exact baseCycles_range _
  · refine ⟨rfl, List.contains_iff_mem, xxx_wellFormed_iff op, fun row hrow hop => ?_⟩
    have hbase := baseCycles_of_undocumented row hrow op hop
    refine ⟨hbase, _, exec_noOperation (.inr rfl) s, rfl, fun hp => ?_⟩
    exact (State.baseCycles_default hp op).trans hbase

end Sys2Proof.Machine
end

section
/-! BRK and RTI (spec 45_stack_flags_system.md R263, R264), and that RTI undoes every entry to a handler on RAM
(60_exceptions.md R289). -/

namespace Sys2Proof

open Sys2Proof.Machine

/-- Neither of BRK's operands reads anything: it calls no fetch() (40_execution_and_addressing.md R139). -/
theorem Instr.resolved_brk_devices (s : State) : (Instr.brk.resolved s).devices = s.devices := by
  simp only [Instr.resolved]
  cases s.params.brkMode <;> rfl

end Sys2Proof

namespace Sys2Proof.Machine

/-! ## Flags written by a mask -/

theorem putFlag_putFlag_true (p : Byte) (f g : Flag) :
    putFlag (putFlag p f true) g true = p ||| (f.mask ||| g.mask) := BitVec.or_assoc ..

theorem putFlag_putFlag_false (p : Byte) (f g : Flag) :
    putFlag (putFlag p f false) g false = p &&& (~~~ f.mask &&& ~~~ g.mask) := BitVec.and_assoc ..

/-! ## BRK -/

theorem State.enterHandler_bytesKept {s : State} (hplain : s.plain = true) (hcanonical : s.canonical = true)
    (stacked live : Byte) (vector : Word) :
    BytesKept [stackAddr s.sp, stackAddr (s.sp - 1), stackAddr (s.sp - 2)] s
      (s.enterHandler stacked live vector) := by
  have address := State.pushWord_bytesKept hplain hcanonical s.pc
  have hplain' : (s.pushWord s.pc).plain = true := by
    rw [State.plain, State.pushWord_eq, Bus.write_plain, Bus.write_plain]
    exact hplain
  have hcanonical' : (s.pushWord s.pc).canonical = true :=
    State.memWrite_canonical (State.memWrite_canonical hcanonical ..) ..
  have hdevices : (s.enterHandler stacked live vector).devices =
      Bus.write (s.pushWord s.pc).devices (stackAddr (s.sp - 2)) stacked := by
    rw [State.enterHandler_devices hplain, State.pushWord_eq]
    rfl
  exact address.trans (bytesKept_of_write hplain' hcanonical' hdevices)

/-- Settles O36: the run is `exec_brk_eq`, its pushes and vector reads `State.enterHandler_eq`. -/
theorem brkEntersHandler : Obligations.BrkEntersHandler := by
  refine ⟨hasForms_of_soleForm (i := .brk) rfl (by decide), fun s => ?_⟩
  have hdevices := Instr.resolved_brk_devices s
  have hsp := Instr.brk.resolved_sp s
  refine ⟨_, exec_brk_eq s, ?_, (State.enterHandler_sp ..).trans (by rw [hsp]), State.enterHandler_p ..,
    State.enterHandler_cycles .., exec_frame (exec_brk_eq s) (by decide) (by decide) fun hplain hcanonical => ?_⟩
  · rw [State.enterHandler_eq, devicesAfterEntry, putFlag_putFlag_true]
    simp only [hdevices, hsp]
    exact ⟨rfl, rfl⟩
  · have hcanonical' : (Instr.brk.resolved s).canonical = true := by
      rw [State.canonical, hdevices]
      exact hcanonical
    rw [← hsp]
    exact (bytesKept_of_devices hdevices).trans (State.enterHandler_bytesKept
      (s := { Instr.brk.resolved s with pc := s.pc + 1 }) (Instr.brk.resolved_plain hplain) hcanonical' _ _ _)

/-! ## RTI -/

theorem exec_rti (s : State) :
    exec .rti s = .next { s.returnFromHandler with fetched := s.a, cycles := s.baseCycles 0x40 } := rfl

/-- Settles O38: the run is `exec_rti`, its three pulls `State.returnFromHandler_eq`. -/
theorem rtiRestoresStatusAndPc : Obligations.RtiRestoresStatusAndPc := by
  refine ⟨hasForms_of_soleForm (i := .rti) rfl (by decide), fun s => ?_⟩
  refine ⟨_, exec_rti s, ?_, ?_, rfl, exec_frame_of_not_writer (exec_rti s) (by decide) (by decide) (by decide)⟩
  · rw [State.returnFromHandler_eq]
    simp only [State.setFlag_p, putFlag_putFlag_false]
    exact ⟨rfl, rfl, rfl, rfl⟩
  · rw [State.returnFromHandler_eq]

/-! ## RTI after an entry, on RAM -/

theorem State.returnFromHandler_eq_of_plain {s : State} (h : s.plain = true) :
    s.returnFromHandler = { s with
      sp := s.sp + 3
      p := putFlag (putFlag (s.peek (stackAddr (s.sp + 1))) .b false) .u false
      pc := word (s.peek (stackAddr (s.sp + 3))) (s.peek (stackAddr (s.sp + 2))) } := by
  simp only [State.returnFromHandler_eq, State.busRead_plain h]

/-- After the entry to a handler the status byte stands below the return address (60_exceptions.md R280). -/
theorem State.onRam_peek_enterHandler_status {s : State} {cells : Memory} (h : s.onRam cells) (stacked live : Byte)
    (vector : Word) : (s.enterHandler stacked live vector).peek (stackAddr (s.sp - 2)) = stacked := by
  have high := State.onRam_memWrite h (stackAddr s.sp) (hi8 s.pc)
  have low := State.onRam_memWrite high (stackAddr (s.sp - 1)) (lo8 s.pc)
  have hdevices : (s.enterHandler stacked live vector).devices =
      (((s.memWrite (stackAddr s.sp) (hi8 s.pc)).memWrite (stackAddr (s.sp - 1)) (lo8 s.pc)).memWrite
        (stackAddr (s.sp - 2)) stacked).devices := State.enterHandler_devices (State.onRam_plain h) ..
  rw [State.peek_congr hdevices, State.onRam_peek_memWrite low, if_pos rfl]

/-- On RAM the return from a handler, made with the S and the memory its entry left, undoes the entry but for P,
which is the stacked byte with B and U clear. -/
theorem State.onRam_returnFromHandler_enterHandler {s t : State} {cells : Memory} (h : s.onRam cells)
    {stacked live : Byte} {vector : Word} (hsp : t.sp = s.sp - 3)
    (hdevices : t.devices = (s.enterHandler stacked live vector).devices) :
    t.returnFromHandler = { t with sp := s.sp, p := putFlag (putFlag stacked .b false) .u false, pc := s.pc } := by
  obtain ⟨hhigh, hlow⟩ := State.onRam_peek_enterHandler h stacked live vector
  have hstatus := State.onRam_peek_enterHandler_status h stacked live vector
  have hplain : t.plain = true := by
    rw [State.plain, hdevices, State.enterHandler_devices (State.onRam_plain h), devicesAfterEntry, Bus.write_plain,
      Bus.write_plain, Bus.write_plain]
    exact State.onRam_plain h
  have hsp1 : t.sp + 1 = s.sp - 2 := by bv_omega
  have hsp2 : t.sp + 2 = s.sp - 1 := by bv_omega
  have hsp3 : t.sp + 3 = s.sp := by bv_omega
  simp only [State.returnFromHandler_eq_of_plain hplain, hsp1, hsp2, hsp3, State.peek_congr hdevices, hhigh, hlow,
    hstatus, word_hi8_lo8]

/-- What RTI leaves after an entry that stacked a status with I set and C, Z, D, V and N as they were. -/
theorem exec_rti_of_entry {s t : State} {cells : Memory} (h : s.onRam cells) {p stacked live : Byte} {vector : Word}
    (hi : getFlag stacked .i = true) (hkept : ∀ f ∈ [Flag.c, .z, .d, .v, .n], getFlag stacked f = getFlag p f)
    (hsp : t.sp = s.sp - 3) (hdevices : t.devices = (s.enterHandler stacked live vector).devices) :
    ∃ u, exec .rti t = .next u ∧ u.pc = s.pc ∧ u.sp = s.sp ∧ u.flag .i = true ∧ u.flag .b = false
      ∧ ∀ f ∈ [Flag.c, .z, .d, .v, .n], u.flag f = getFlag p f := by
  refine ⟨_, exec_rti t, ?_⟩
  rw [State.onRam_returnFromHandler_enterHandler h hsp hdevices]
  refine ⟨rfl, rfl, ?_, ?_, fun f hf => ?_⟩
  · simpa [State.flag] using hi
  · simp [State.flag]
  · have hbu : f ≠ .b ∧ f ≠ .u := by revert f; decide
    simpa [State.flag, hbu] using hkept f hf

theorem interruptStatus_i (p : Byte) : getFlag (interruptStatus p) .i = true := by
  simp [interruptStatus]

theorem interruptStatus_kept (p : Byte) :
    ∀ f ∈ [Flag.c, .z, .d, .v, .n], getFlag (interruptStatus p) f = getFlag p f := by
  simp [interruptStatus]

/-- Settles O41: each entry stacks a status with I set and the other flags as they were, and `exec_rti_of_entry`
returns from it; the entry of BRK is made from the address past the pad byte (`exec_brk_eq`). -/
theorem rtiUndoesEntry : Obligations.RtiUndoesEntry := by
  rintro s t t' cells ret hram (⟨hi, rfl, rfl⟩ | ⟨rfl, rfl⟩ | ⟨hbrk, rfl⟩) hsp hdevices
  · have hirq : s.irq.devices = (s.enterHandler (interruptStatus s.p) (interruptStatus s.p) irqVector).devices := by
      simp [State.irq, hi]
    exact exec_rti_of_entry hram (interruptStatus_i s.p) (interruptStatus_kept s.p)
      (hsp.trans (State.irq_of_unmasked hi).2) (hdevices.trans hirq)
  · exact exec_rti_of_entry hram (interruptStatus_i s.p) (interruptStatus_kept s.p) (hsp.trans s.nmi_sp) hdevices
  · rw [exec_brk_eq] at hbrk
    cases hbrk
    have hram' : State.onRam { Instr.brk.resolved s with pc := s.pc + 1 } cells :=
      State.onRam_congr hram (Instr.resolved_brk_devices s)
    obtain ⟨u, hu, hpc, husp, hflags⟩ := exec_rti_of_entry hram' (p := s.p) (by simp) (by simp)
      (hsp.trans (State.enterHandler_sp ..)) hdevices
    exact ⟨u, hu, hpc, husp.trans (Instr.brk.resolved_sp s), hflags⟩

end Sys2Proof.Machine
end

section
/-! irq(), nmi() and reset() (spec 60_exceptions.md R283-R287), and that nothing stops the machine (R281, R297). -/

namespace Sys2Proof.Machine

/-! ## The entry irq() and nmi() make -/

/-- What a taken irq() and every nmi() leave: they differ in the vector and the cycles (60_exceptions.md R283, R284). -/
def State.interrupted (s : State) (vector : Word) (n : Nat) : State :=
  { s.enterHandler (interruptStatus s.p) (interruptStatus s.p) vector with cycles := n }

theorem State.irq_eq_interrupted {s : State} (h : s.flag .i = false) : s.irq = s.interrupted irqVector 7 := by
  simp [State.irq, State.interrupted, h]

theorem State.nmi_eq_interrupted (s : State) : s.nmi = s.interrupted nmiVector 8 := rfl

@[simp] theorem State.interrupted_sp (s : State) (vector : Word) (n : Nat) : (s.interrupted vector n).sp = s.sp - 3 := by
  simp [State.interrupted]

@[simp] theorem State.interrupted_pc (s : State) (vector : Word) (n : Nat) :
    (s.interrupted vector n).pc = (s.enterHandler (interruptStatus s.p) (interruptStatus s.p) vector).pc := by
  rw [State.interrupted]

@[simp] theorem State.interrupted_devices (s : State) (vector : Word) (n : Nat) :
    (s.interrupted vector n).devices = (s.enterHandler (interruptStatus s.p) (interruptStatus s.p) vector).devices := by
  rw [State.interrupted]

@[simp] theorem State.interrupted_opcode (s : State) (vector : Word) (n : Nat) :
    (s.interrupted vector n).opcode = s.opcode := by
  simp [State.interrupted]

@[simp] theorem State.interrupted_params (s : State) (vector : Word) (n : Nat) :
    (s.interrupted vector n).params = s.params := by
  simp [State.interrupted]

theorem interruptStatus_eq (p : Byte) : interruptStatus p = (p ||| 0x24) &&& 0xEF := by
  have hmasks : interruptStatus p = (p &&& 0xEF) ||| (0x24 &&& 0xEF) := putFlag_putFlag_true _ .u .i
  rw [hmasks]
  ext i hi
  simp only [BitVec.getElem_or, BitVec.getElem_and, Bool.and_or_distrib_right]

theorem interruptStatus_b (p : Byte) : getFlag (interruptStatus p) .b = false := by
  simp [interruptStatus]

theorem State.flag_interrupted (s : State) (vector : Word) (n : Nat) (f : Flag) :
    (s.interrupted vector n).flag f = getFlag (interruptStatus s.p) f := by
  simp [State.interrupted, State.flag]

theorem State.flag_interrupted_of_not_mem {f : Flag} (h : f ∉ [Flag.i, .b, .u]) (s : State) (vector : Word) (n : Nat) :
    (s.interrupted vector n).flag f = s.flag f := by
  rw [State.flag_interrupted]
  simp_all [interruptStatus, State.flag]

theorem State.interrupted_frame (s : State) (vector : Word) (n : Nat) :
    Frame [.sp] [.i, .b, .u] [stackAddr s.sp, stackAddr (s.sp - 1), stackAddr (s.sp - 2)] s
      (s.interrupted vector n) := by
  obtain ⟨htotal, hreset, hcommands⟩ :=
    s.enterHandler_controlKept (interruptStatus s.p) (interruptStatus s.p) vector
  obtain ⟨hconfig, -⟩ := s.enterHandler_busKept (interruptStatus s.p) (interruptStatus s.p) vector
  have hreg : ∀ r, r ∉ [Reg.sp] → (s.interrupted vector n).reg r = s.reg r := fun r hr =>
    State.enterHandler_reg (by simpa using hr) s (interruptStatus s.p) (interruptStatus s.p) vector
  have hbytes := fun hplain hcanonical => State.enterHandler_bytesKept (s := s) hplain hcanonical
    (interruptStatus s.p) (interruptStatus s.p) vector
  exact ⟨hreg, fun f hf => State.flag_interrupted_of_not_mem hf s vector n, htotal, s.interrupted_opcode vector n,
    hreset, hcommands, s.interrupted_params vector n, hconfig, hbytes⟩

/-- Settles O39: both entries are `State.interrupted`, its accesses `State.enterHandler_eq`. -/
theorem interruptsEnterHandler : Obligations.InterruptsEnterHandler := by
  refine fun s => ⟨State.irq_of_masked, fun t vector n h => ?_⟩
  obtain rfl : t = s.interrupted vector n := by
    obtain ⟨rfl, hi, rfl, rfl⟩ | ⟨rfl, rfl, rfl⟩ := h
    · exact State.irq_eq_interrupted hi
    · exact s.nmi_eq_interrupted
  refine ⟨?_, s.interrupted_sp vector n, rfl, s.interrupted_frame vector n⟩
  rw [State.interrupted, State.enterHandler_eq, devicesAfterEntry, interruptStatus_eq]
  exact ⟨rfl, rfl, rfl⟩

/-! ## The vectors, which lie outside the stack page -/

theorem not_mem_map_stackAddr {a : Word} (h : 0x0200 ≤ a) (sps : List Byte) : a ∉ sps.map stackAddr := by
  rw [List.mem_map]
  rintro ⟨sp, -, rfl⟩
  have hlow := stackAddr_toNat sp
  bv_omega

/-- The entry to a handler keeps every byte above the stack page. -/
theorem State.onRam_peek_enterHandler_above {s : State} {cells : Memory} (h : s.onRam cells) (stacked live : Byte)
    (vector : Word) {a : Word} (ha : 0x0200 ≤ a) : (s.enterHandler stacked live vector).peek a = s.peek a :=
  State.enterHandler_bytesKept (State.onRam_plain h) (State.onRam_canonical h) stacked live vector a
    (not_mem_map_stackAddr ha [s.sp, s.sp - 1, s.sp - 2])

theorem State.onRam_enterHandler {s : State} {cells : Memory} (h : s.onRam cells) (stacked live : Byte)
    (vector : Word) : ∃ cells', (s.enterHandler stacked live vector).onRam cells' := by
  have high := State.onRam_memWrite h (stackAddr s.sp) (hi8 s.pc)
  have low := State.onRam_memWrite high (stackAddr (s.sp - 1)) (lo8 s.pc)
  have status := State.onRam_memWrite low (stackAddr (s.sp - 2)) stacked
  exact ⟨_, State.onRam_congr status (State.enterHandler_devices (State.onRam_plain h) ..)⟩

/-- On RAM the handler entered is the one whose address stood at the vector before the entry. -/
theorem State.onRam_enterHandler_pc {s : State} {cells : Memory} (h : s.onRam cells) (stacked live : Byte)
    {vector : Word} (hlo : 0x0200 ≤ vector) (hhi : 0x0200 ≤ vector + 1) :
    (s.enterHandler stacked live vector).pc = s.peek (vector + 1) ++ s.peek vector := by
  have hentered := State.enterHandler_devices (State.onRam_plain h) stacked live vector
  obtain ⟨cells', hram⟩ := State.onRam_enterHandler h stacked live vector
  have hread := State.busRead_plain (State.onRam_plain hram)
  rw [hentered] at hread
  rw [← State.onRam_peek_enterHandler_above h stacked live vector hlo,
    ← State.onRam_peek_enterHandler_above h stacked live vector hhi]
  conv => lhs; rw [State.enterHandler_eq]
  simp only [hread]
  rfl

/-! ## The B bit of the stacked status -/

theorem State.onRam_entry_stackedB {s t : State} {cells : Memory} (h : s.onRam cells) {stacked live : Byte}
    {vector : Word} (hsp : t.sp = s.sp - 3)
    (hdevices : t.devices = (s.enterHandler stacked live vector).devices) :
    (t.peek (stackAddr (t.sp + 1))).getLsbD 4 = getFlag stacked .b := by
  have hstatus : t.sp + 1 = s.sp - 2 := by bv_omega
  rw [hstatus, State.peek_congr hdevices, State.onRam_peek_enterHandler_status h]
  rfl

/-- What irq() and nmi() leave to tell their handler by, on RAM. -/
theorem State.onRam_interrupted {s : State} {cells : Memory} (h : s.onRam cells) {vector : Word} {n : Nat}
    (hlo : 0x0200 ≤ vector) (hhi : 0x0200 ≤ vector + 1) :
    ((s.interrupted vector n).peek (stackAddr ((s.interrupted vector n).sp + 1))).getLsbD 4 = false
      ∧ (s.interrupted vector n).flag .b = false
      ∧ (s.interrupted vector n).pc = s.peek (vector + 1) ++ s.peek vector := by
  refine ⟨?_, (s.flag_interrupted vector n .b).trans (interruptStatus_b s.p), ?_⟩
  · rw [State.onRam_entry_stackedB h (s.interrupted_sp vector n) (s.interrupted_devices vector n), interruptStatus_b]
  · rw [State.interrupted_pc, State.onRam_enterHandler_pc h _ _ hlo hhi]

/-- Settles O40: each entry stacks its own B (`State.onRam_entry_stackedB`), and the vectors lie outside the stack page
(`State.onRam_enterHandler_pc`). -/
theorem stackedBreakFlagTellsCause : Obligations.StackedBreakFlagTellsCause := by
  rintro s t cells b vector hram (⟨hbrk, rfl, rfl⟩ | ⟨hi, rfl, rfl, rfl⟩ | ⟨rfl, rfl, rfl⟩)
  · rw [exec_brk_eq] at hbrk
    cases hbrk
    have hdevices : State.devices { Instr.brk.resolved s with pc := s.pc + 1 } = s.devices :=
      Instr.resolved_brk_devices s
    have hram' := State.onRam_congr hram hdevices
    refine ⟨(State.onRam_entry_stackedB hram' (State.enterHandler_sp ..) rfl).trans (by simp), by simp [State.flag],
      ?_⟩
    rw [State.onRam_enterHandler_pc hram' _ _ (by decide) (by decide), State.peek_congr hdevices,
      State.peek_congr hdevices]
    rfl
  · rw [State.irq_eq_interrupted hi]
    exact State.onRam_interrupted hram (by decide) (by decide)
  · rw [State.nmi_eq_interrupted]
    exact State.onRam_interrupted hram (by decide) (by decide)

/-! ## Commands one after another -/

theorem State.nmi_irq (s : State) : s.nmi.irq = s.nmi :=
  State.irq_of_masked ((s.flag_interrupted nmiVector 8 .i).trans (interruptStatus_i s.p))

theorem State.irq_irq (s : State) : s.irq.irq = s.irq := by
  cases hi : s.flag .i
  · rw [State.irq_eq_interrupted hi]
    exact State.irq_of_masked ((s.flag_interrupted irqVector 7 .i).trans (interruptStatus_i s.p))
  · rw [State.irq_of_masked hi, State.irq_of_masked hi]

/-- On RAM an nmi() after a taken irq() enters its own handler, with a frame right below the IRQ's. -/
theorem State.onRam_nmi_after_irq {s : State} {cells : Memory} (h : s.onRam cells) (hi : s.flag .i = false) :
    s.irq.nmi.sp = s.sp - 6 ∧ s.irq.nmi.pc = s.peek 0xFFFB ++ s.peek 0xFFFA
      ∧ s.irq.nmi.peek (stackAddr (s.sp - 3)) = hi8 s.irq.pc
      ∧ s.irq.nmi.peek (stackAddr (s.sp - 4)) = lo8 s.irq.pc := by
  obtain ⟨-, hsp⟩ := State.irq_of_unmasked hi
  have hdevices : s.irq.devices = (s.enterHandler (interruptStatus s.p) (interruptStatus s.p) irqVector).devices := by
    rw [State.irq_eq_interrupted hi, State.interrupted_devices]
  have hkept : ∀ a : Word, 0x0200 ≤ a → s.irq.peek a = s.peek a := fun a ha =>
    (State.peek_congr hdevices a).trans (State.onRam_peek_enterHandler_above h _ _ _ ha)
  obtain ⟨cells', hentered⟩ := State.onRam_enterHandler h (interruptStatus s.p) (interruptStatus s.p) irqVector
  have hram : s.irq.onRam cells' := State.onRam_congr hentered hdevices
  obtain ⟨hhigh, hlow⟩ :=
    State.onRam_peek_enterHandler hram (interruptStatus s.irq.p) (interruptStatus s.irq.p) nmiVector
  have hsp4 : s.irq.sp - 1 = s.sp - 4 := by bv_omega
  rw [hsp] at hhigh
  rw [hsp4] at hlow
  rw [State.nmi_sp, State.nmi_eq_interrupted, State.interrupted_pc,
    State.onRam_enterHandler_pc hram _ _ (by decide) (by decide), hkept _ (by decide), hkept _ (by decide),
    State.peek_congr (State.interrupted_devices ..), State.peek_congr (State.interrupted_devices ..)]
  exact ⟨by bv_omega, rfl, hhigh, hlow⟩

theorem State.resetCommand_of_plain {s : State} (h : s.plain = true) :
    s.resetCommand.devices = s.devices ∧ s.resetCommand.pc = s.peek 0xFFFD ++ s.peek 0xFFFC := by
  simp only [State.resetCommand, State.readVec_eq, State.busRead_plain h, true_and]
  rfl

/-- Settles O42: an entry leaves I set, which drops irq() (`State.irq_irq`, `State.nmi_irq`) but not nmi()
(`State.onRam_nmi_after_irq`), and reset() makes two reads (`State.resetCommand_of_plain`). -/
theorem consecutiveInterrupts : Obligations.ConsecutiveInterrupts := by
  refine ⟨fun s => ⟨s.irq_irq, s.nmi_irq⟩, fun s cells hram hi => ?_,
    fun s t _ => ⟨rfl, rfl, rfl, rfl, State.resetCommand_of_plain⟩⟩
  obtain ⟨hsp, hpc, hhigh, hlow⟩ := State.onRam_nmi_after_irq hram hi
  refine ⟨hsp, hpc, hhigh, hlow, ?_⟩
  rw [State.irq_eq_interrupted hi, State.interrupted_pc,
    State.onRam_enterHandler_pc hram _ _ (by decide) (by decide)]
  rfl

/-! ## Every instruction and, after a reset, every command answers a next state -/

theorem exec_next (i : Instr) (s : State) : ∃ t, exec i s = .next t := ⟨_, exec_eq_runOp i s⟩

theorem command_next {s : State} (h : s.resetDone = true) (c : HostCommand) : ∃ t, command c s = .next t := by
  cases c
  case reset => exact ⟨_, rfl⟩
  case clock => rw [command_clock_of_resetDone h]; exact clock_next s
  case irq => exact ⟨_, if_pos h⟩
  case nmi => exact ⟨_, if_pos h⟩

/-- A command that is accepted leaves a machine on which a reset has run. -/
theorem command_resetDone {c : HostCommand} {s t : State} (h : command c s = .next t) : t.resetDone = true := by
  obtain rfl | ⟨hdone, hclock | rfl | rfl⟩ := command_cases h
  · rfl
  · exact (clock_controlKept hclock).resetDone.trans hdone
  · exact s.irq_controlKept.resetDone.trans hdone
  · exact s.nmi_controlKept.resetDone.trans hdone

@[simp] theorem State.nextCommand_resetDone (s : State) : s.nextCommand.2.resetDone = s.resetDone := by
  unfold State.nextCommand
  split <;> rfl

/-- Settles O49: instructions by `exec_next`, steps by `command_next` and `command_resetDone`. -/
theorem nothingFaultsOrIsRefused : Obligations.NothingFaultsOrIsRefused := by
  refine ⟨exec_next, fun s hdone => ?_⟩
  obtain ⟨t, ht⟩ := command_next (s.nextCommand_resetDone.trans hdone) s.nextCommand.1
  exact ⟨t, ht, command_resetDone ht⟩

end Sys2Proof.Machine
end

section
/-! reset() and the clocks after it (spec 70_reset_and_hazards.md R320-R325), and the base cases of the machine
invariant. -/

namespace Sys2Proof.Machine

/-! ## What reset() leaves -/

/-- Every field after reset(): the reset values, and PC from the two reads of the vector (R321). -/
theorem State.resetCommand_eq (s : State) :
    s.resetCommand =
      (let lo := Bus.read s.devices 0xFFFC false
       let hi := Bus.read lo.2 0xFFFD false
       { s with
        a := 0x00, x := 0x00, y := 0x00, sp := 0xFD, pc := hi.1 ++ lo.1, p := 0x20, cycles := 8,
        totalCycles := 0, opcode := 0, fetched := 0, temp := 0, addrAbs := 0, addrRel := 0,
        resetDone := true, devices := hi.2 }) := rfl

/-- After reset() U alone is set. -/
theorem State.resetCommand_flag (s : State) (f : Flag) : s.resetCommand.flag f = decide (f = .u) := by
  have hp : s.resetCommand.flag f = getFlag 0x20 f := rfl
  rw [hp]
  cases f <;> decide

/-- Settles O43: the record is `State.resetCommand_eq`, and on plain memory the two reads change nothing
(`State.resetCommand_of_plain`). -/
theorem resetLeavesResetValues : Obligations.ResetLeavesResetValues := fun s =>
  ⟨s.resetCommand_eq, s.resetCommand_flag, rfl, fun h => (State.resetCommand_of_plain h).1⟩

/-! ## The clocks after reset() -/

/-- The state `k` clocks after reset(), while they only count down (R322). -/
def State.clocksAfterReset (s : State) (k : Nat) : State :=
  { s.resetCommand with cycles := 8 - k, totalCycles := k }

theorem State.tick_of_cycles_ne_zero {s : State} (h : s.cycles ≠ 0) :
    s.tick = { s with totalCycles := s.totalCycles + 1, cycles := s.cycles - 1 } := by
  rw [State.tick, countDown_pos h]

/-- Once a reset has run, a clock with cycles left counts one down, and that is all (R131). -/
theorem command_clock_of_cycles_ne_zero {s : State} (hreset : s.resetDone = true) (hcycles : s.cycles ≠ 0) :
    command .clock s = .next { s with totalCycles := s.totalCycles + 1, cycles := s.cycles - 1 } := by
  rw [command_clock_of_resetDone hreset, clock_of_cycles_ne_zero hcycles, State.tick_of_cycles_ne_zero hcycles]

theorem State.command_clock_clocksAfterReset (s : State) {k : Nat} (h : k < 8) :
    command .clock (s.clocksAfterReset k) = .next (s.clocksAfterReset (k + 1)) :=
  command_clock_of_cycles_ne_zero rfl (Nat.sub_ne_zero_of_lt h)

theorem State.clocksAfterReset_complete_iff (s : State) {k : Nat} (h : k ≤ 8) :
    (s.clocksAfterReset k).complete = true ↔ k = 8 := by
  simp only [State.complete, State.clocksAfterReset, beq_iff_eq]
  omega

/-- On plain memory a clock that fetches records the byte at PC as the opcode. -/
theorem clock_opcode_of_plain {s t : State} (hplain : s.plain = true) (hcycles : s.cycles = 0)
    (h : clock s = .next t) : t.opcode = s.peek s.pc := by
  obtain ⟨hne, -⟩ | ⟨u, hexec, rfl⟩ := clock_cases h
  · exact absurd hcycles hne
  · obtain ⟨hread, -, -⟩ := State.reads_plain hplain
    calc u.opcode = (fetch s).2.opcode := exec_opcode hexec
      _ = s.opcodeRead.1 := by rw [fetch_eq, State.afterFetch]
      _ = s.peek s.pc := by rw [hread]

theorem State.ninthClock_opcode {s : State} (h : s.plain = true) :
    ∃ t, command .clock (s.clocksAfterReset 8) = .next t ∧ t.opcode = s.peek s.resetCommand.pc := by
  have hdevices : (s.clocksAfterReset 8).devices = s.devices := (State.resetCommand_of_plain h).1
  have hplain : (s.clocksAfterReset 8).plain = true := (congrArg (List.all · Device.plain) hdevices).trans h
  obtain ⟨t, ht⟩ := clock_next (s.clocksAfterReset 8)
  exact ⟨t, (command_clock_of_resetDone rfl).trans ht,
    (clock_opcode_of_plain hplain rfl ht).trans (State.peek_congr hdevices _)⟩

/-! ## The vector written before reset() -/

theorem word_eq_ofNat (h l : Byte) : word h l = BitVec.ofNat 16 (h.toNat * 256 + l.toNat) := by
  rw [← word_toNat, BitVec.ofNat_toNat, BitVec.setWidth_eq]

/-- On RAM reset() loads PC with the word the core wrote at the vector. -/
theorem State.onRam_resetCommand_pc {s : State} {cells : Memory} (h : s.onRam cells) (lo hi : Byte) :
    ((s.memWrite 0xFFFC lo).memWrite 0xFFFD hi).resetCommand.pc = BitVec.ofNat 16 (hi.toNat * 256 + lo.toNat) := by
  have hlow := State.onRam_memWrite h 0xFFFC lo
  have hboth := State.onRam_memWrite hlow 0xFFFD hi
  obtain ⟨-, hpc⟩ := State.resetCommand_of_plain (State.onRam_plain hboth)
  rw [hpc, State.onRam_peek_memWrite hlow 0xFFFD 0xFFFD, State.onRam_peek_memWrite hlow 0xFFFD 0xFFFC,
    State.onRam_peek_memWrite h 0xFFFC 0xFFFC, if_pos rfl, if_neg (by decide), if_pos rfl]
  exact word_eq_ofNat hi lo

/-- On RAM a host write is the core's (`hostWritesReachDevice`). -/
theorem State.onRam_bootstrap_cons {s : State} {cells : Memory} (h : s.onRam cells) (a : Word) (v : Byte)
    (ws : List (Nat × Word × Byte)) : s.bootstrap ((0, a, v) :: ws) = (s.memWrite a v).bootstrap ws := by
  obtain ⟨-, -, hcons, hsingle⟩ := hostWritesReachDevice s 0 a v
  rw [hcons, hsingle cells h]

/-- Settles O45: the countdown is `State.command_clock_clocksAfterReset`, the fetch `State.ninthClock_opcode`; on RAM
the host's two writes are the core's, after which PC is `State.onRam_resetCommand_pc`. -/
theorem eightClocksAfterReset : Obligations.EightClocksAfterReset := by
  refine fun s => ⟨⟨rfl, fun _ => s.command_clock_clocksAfterReset, fun _ => s.clocksAfterReset_complete_iff,
    State.ninthClock_opcode⟩, fun cells lo hi hram => ?_⟩
  have hpc := State.onRam_resetCommand_pc hram lo hi
  rw [State.onRam_bootstrap_cons hram, State.onRam_bootstrap_cons (State.onRam_memWrite hram 0xFFFC lo)]
  exact ⟨hpc, hpc⟩

/-! ## Refused and accepted commands -/

theorem command_refused_of_not_resetDone {s : State} (h : s.resetDone = false) {c : HostCommand} (hc : c ≠ .reset) :
    command c s = .refused .beforeFirstReset := by
  have hnot : ¬ s.resetDone = true := Bool.not_eq_true _ ▸ h
  cases c
  case reset => exact absurd rfl hc
  case clock | irq | nmi => exact if_neg hnot

/-- Settles O46: each command by its own rule; that an accepted one leaves a reset done is `command_resetDone`. -/
theorem commandsBeforeResetAreRefused : Obligations.CommandsBeforeResetAreRefused := fun _ =>
  ⟨fun h _ => command_refused_of_not_resetDone h, ⟨rfl, rfl⟩, fun h => ⟨if_pos h, if_pos h⟩,
    command_clock_of_cycles_ne_zero, fun h c => (command_next h c).imp fun _ ht => ⟨ht, command_resetDone ht⟩⟩

/-! ## The default machine -/

theorem Bus.wellFormed_ram : Bus.wellFormed [Device.ram] = true := by decide

/-- reset() takes the machine just built over zeroed RAM to `State.reset`: it writes every field that construction
leaves unspecified. -/
theorem command_reset_constructed :
    command .reset (State.constructed defaultParams [Device.ram]) = .next State.reset := rfl

/-- Settles O44: RAM is well formed, so the machine is built, and its reset is `command_reset_constructed`. -/
theorem resetStateIsResetOfDefaultMachine : Obligations.ResetStateIsResetOfDefaultMachine :=
  ⟨_, construct_of_wellFormed Bus.wellFormed_ram defaultParams, command_reset_constructed⟩

theorem State.constructed_inv (p : Params) : (State.constructed p [Device.ram]).Inv :=
  ⟨Bus.wellFormed_ram, rfl, fun hdone => absurd hdone Bool.false_ne_true⟩

/-- Settles O53: the machine just built meets the invariant, and reset(), like every command, keeps it. -/
theorem resetStateMeetsInvariant : Obligations.ResetStateMeetsInvariant :=
  ⟨command_inv (State.constructed_inv defaultParams) command_reset_constructed, State.constructed_inv⟩

end Sys2Proof.Machine
end
